-- ==== Sys2Proof/Word.lean ====
section
/-!
DEFINITION. The words of the block (spec/00_scope.md R7): a byte, a 20-bit raw field, a 32-bit binary32 pattern,
a 7-bit device address, a 3-bit byte count, a 7-bit duration, a 2-bit host command word.
-/

namespace Sys2Proof

/-- A byte (R7). -/
abbrev Byte := BitVec 8

/-- A raw field of the data frame, 20 bits unsigned (R7, R30). -/
abbrev Raw := BitVec 20

/-- The bit pattern of a binary32 value (R30). -/
abbrev Bits32 := BitVec 32

/-- A bus address, carried in 7 bits (R50). -/
abbrev DevAddr := BitVec 7

/-- A read byte count, carried in 3 bits (R7, R53). -/
abbrev Count := BitVec 3

/-- A duration in milliseconds, carried in 7 bits (R59). -/
abbrev Millis := BitVec 7

/-- The host command word of format HC, 2 bits (R81). -/
abbrev HostWord := BitVec 2

end Sys2Proof
end

