-- ==== Sys2Proof/Config.lean ====
section
/-!
DEFINITION. The constants of the command set (spec/00_scope.md R5), in one place as spec/93 U1 asks.
UNVERIFIED, unsafe (log entry 20): the spec takes the source's literals as written and says that they are unaudited.
-/

namespace Sys2Proof.Config

/-- `DEV_ADDR`: the one bus address of every access (R5, R50). -/
def devAddr : DevAddr := 0x38

/-- `FRAME_RESET` (R5, R82). -/
def frameReset : List Byte := [0xBA]

/-- `FRAME_INIT`, first byte on the bus first (R5, R83, R61). -/
def frameInit : List Byte := [0xE1, 0x08, 0x00]

/-- `FRAME_TRIGGER`, first byte on the bus first (R5, R83, R61). -/
def frameTrigger : List Byte := [0xAC, 0x33, 0x00]

/-- `T_POWERON_MS` (R5). -/
def powerOnMs : Millis := 40

/-- `T_SETTLE_MS` (R5). -/
def settleMs : Millis := 75

/-- `LEN_STATUS` (R5, decision D12). -/
def lenStatus : Count := 1

/-- `LEN_MEASURE` (R5). -/
def lenMeasure : Count := 6

/-- `MODE_MASK` (R5). -/
def modeMask : Byte := 0x60

/-- `CAL_MASK` (R5). -/
def calMask : Byte := 0x08

/-- The largest status byte that is not busy: `busy` is `s > 0x7F` (R121). -/
def busyLimit : Byte := 0x7F

/-- `D = 2^20`, the scale divisor of both raw fields (R5, R134). -/
def scaleDivisor : Nat := 1048576

/-- `HUM_SCALE` (R5). -/
def humScale : Nat := 100

/-- `TEMP_SCALE` (R5). -/
def tempScale : Nat := 200

/-- `TEMP_OFFSET`, subtracted (R5). -/
def tempOffset : Nat := 50

end Sys2Proof.Config
end

