-- ==== Sys2Proof/Syntax.lean ====
section
/-!
DEFINITION. The operations of spec/opcode_table.json, the formats of their words, and the two selector fields
`cur_op` and `phase` (spec/30_encoding.md R80, R91; spec/10_state.md R23, R24).
-/

namespace Sys2Proof

/-- The twelve operations (R91), one constructor per row of the opcode table.
Host and micro-operations have no operand; a decode function's operands are the bytes it is given. -/
inductive Instr where
  /-- `RESET`, host operation (R152). -/
  | hostReset
  /-- `INITIALIZE`, host operation (R153). -/
  | hostInitialize
  /-- `MEASURE`, host operation (R154). -/
  | hostMeasure
  /-- `WR_RESET` (R100). -/
  | wrReset
  /-- `WR_INIT` (R101). -/
  | wrInit
  /-- `WR_TRIGGER` (R102). -/
  | wrTrigger
  /-- `DLY_POWERON` (R110). -/
  | dlyPoweron
  /-- `DLY_SETTLE` (R111). -/
  | dlySettle
  /-- `RD_STATUS` (R112). -/
  | rdStatus
  /-- `RD_MEASURE` (R113). -/
  | rdMeasure
  /-- `DECODE_STATUS(s)` (R120), the parser used alone (decision D23). -/
  | decodeStatus (s : Byte)
  /-- `DECODE_FRAME(b0, b1, b2, b3, b4)` (R130), the decoder used alone (decision D23). -/
  | decodeFrame (b0 b1 b2 b3 b4 : Byte)
  deriving DecidableEq, Repr

/-- The format a word is read in: R80's formats but `HR`, which the block only sends (State's `Response`),
and `SEL`, the block's own selector (R91).
A format is a property of the channel a word is on: no bits of the word tell it. -/
inductive Format where
  /-- host command word, 2 bits (R81) -/
  | hc
  /-- one-byte command frame (R82) -/
  | w1
  /-- three-byte command frame (R83) -/
  | w3
  /-- `cur_op[1:0] ++ phase[2:0]`, 5 bits (R91) -/
  | sel
  /-- status-only response frame (R84) -/
  | r1
  /-- status and data response frame (R85) -/
  | r6
  /-- status byte (R86) -/
  | s8
  /-- data frame (R87) -/
  | d40
  deriving DecidableEq, Repr

/-- How many bytes a word of the format takes. A word of less than 8 bits takes one byte (R80). -/
def Format.bytes : Format → Nat
  | .hc | .w1 | .sel | .r1 | .s8 => 1
  | .w3 => 3
  | .d40 => 5
  | .r6 => 6

/-- How many bits of the format's first byte belong to the word (R80, R91). -/
def Format.firstBits : Format → Nat
  | .hc => 2
  | .sel => 5
  | .w1 | .w3 | .r1 | .r6 | .s8 | .d40 => 8

/-- The operation in progress, `cur_op` (R23). -/
inductive HostOp where
  | reset
  | init
  | measure
  deriving DecidableEq, Repr

/-- The waiting points of the sequencer (R24). -/
inductive Phase where
  /-- `P_IDLE`: waits for `Cmd(op)` -/
  | idle
  /-- `P_DLY0`: waits for the `DlyDone` of `Delay(40)` -/
  | dly0
  /-- `P_WR`: waits for the write answer -/
  | wr
  /-- `P_DLY1`: waits for the `DlyDone` of `Delay(75)` -/
  | dly1
  /-- `P_RD`: waits for the read answer -/
  | rd
  /-- `P_RSP`: waits for the host to take the response -/
  | rsp
  deriving DecidableEq, Repr

end Sys2Proof
end

