-- ==== Sys2Proof/WellFormed.lean ====
section
/-!
DEFINITION. When a list of bytes is one word of a format: its length is the format's, and no bit stands above the
word's width (spec/30_encoding.md R80, R95).
Every term of `Instr` is well formed: its operands are bytes and every byte is allowed (R93, R94).
-/

namespace Sys2Proof

/-- The word has the format's length (R95: never decoded from the bytes). -/
def lengthOk (f : Format) (w : List Byte) : Bool :=
  w.length == f.bytes

/-- No bit of the first byte stands above the word's width (R80: `HC` is 2 bits; R91: `SEL` is 5 bits). -/
def noStrayBits (f : Format) (w : List Byte) : Bool :=
  match w with
  | [] => true
  | b :: _ => b.toNat < 2 ^ f.firstBits

/-- One word of the format. -/
def wordWf (f : Format) (w : List Byte) : Bool :=
  lengthOk f w && noStrayBits f w

end Sys2Proof
end

