-- ==== Sys2Proof/Decode.lean ====
section
/-!
DEFINITION. From words to operations and back (spec/30_encoding.md; spec/opcode_table.json): the field encodings,
the decoder, total on any bytes and rejecting by name, the encoder, and the host's reading of a table word.
-/

namespace Sys2Proof

/-! ### Field encodings (R23, R24) -/

/-- The 2-bit encoding of `cur_op`, that of the host op code (R23, R81). -/
def HostOp.code : HostOp → BitVec 2
  | .reset => 0
  | .init => 1
  | .measure => 2

/-- The operation of a 2-bit code; 3 is never written to `cur_op` (R37). -/
def HostOp.ofCode (c : BitVec 2) : Option HostOp :=
  if c = 0 then some .reset
  else if c = 1 then some .init
  else if c = 2 then some .measure
  else none

/-- The 3-bit encoding of `phase` (R24). -/
def Phase.code : Phase → BitVec 3
  | .idle => 0
  | .dly0 => 1
  | .wr => 2
  | .dly1 => 3
  | .rd => 4
  | .rsp => 5

/-- The 5-bit selector `SEL = cur_op[1:0] ++ phase[2:0]` (R91). -/
def selWord (op : HostOp) (p : Phase) : BitVec 5 :=
  op.code ++ p.code

/-! ### The rows of the opcode table that carry a match and a mask -/

/-- A row: the word `w` is the row's when `w &&& mask = pat`. -/
structure Row where
  mask : Byte
  pat : Byte
  instr : Instr
  deriving DecidableEq, Repr

/-- Format `HC` (R81); op code 3 has no row (R92). -/
def hcRows : List Row :=
  [ ⟨0x03, 0x00, .hostReset⟩,
    ⟨0x03, 0x01, .hostInitialize⟩,
    ⟨0x03, 0x02, .hostMeasure⟩ ]

/-- Format `SEL`: the table's `sel_match` and `sel_mask` (R91).
DLY_SETTLE's mask leaves `cur_op` free (log entry 8). -/
def selRows : List Row :=
  [ ⟨0x1F, 0x02, .wrReset⟩,
    ⟨0x1F, 0x0A, .wrInit⟩,
    ⟨0x1F, 0x12, .wrTrigger⟩,
    ⟨0x1F, 0x09, .dlyPoweron⟩,
    ⟨0x07, 0x03, .dlySettle⟩,
    ⟨0x1F, 0x0C, .rdStatus⟩,
    ⟨0x1F, 0x14, .rdMeasure⟩ ]

/-- The first row that a byte matches. -/
def matchRow (rows : List Row) (b : Byte) : Option Instr :=
  (rows.find? fun r => b &&& r.mask == r.pat).map Row.instr

/-! ### The decoder -/

/-- Why bytes are no word of a format. -/
inductive DecodeError where
  /-- fewer bytes than the format's length (R95) -/
  | truncated
  /-- a bit set above the width of the word (R80) -/
  | strayBits
  /-- op code 3, which selects no operation (R92) -/
  | reservedOp
  /-- a frame that is none of the three command frames (R94) -/
  | notACommandFrame
  /-- a value of `SEL` that selects no micro-operation (R91) -/
  | selectsNothing
  deriving DecidableEq, Repr

/-- A word of a table of rows, `e` where no row matches. -/
def decodeRows (f : Format) (rows : List Row) (e : DecodeError) :
    List Byte → Except DecodeError (Instr × List Byte)
  | [] => .error .truncated
  | b :: rest =>
    if noStrayBits f [b] then
      match matchRow rows b with
      | some i => .ok (i, rest)
      | none => .error e
    else .error .strayBits

/-- The operation of the word at the head of the bytes, read in format `f`, and the bytes after it.
`r1` and `r6` are the frames the two reads receive: every pattern is one (R84, R85, R93, R94). -/
def decode (f : Format) (bytes : List Byte) : Except DecodeError (Instr × List Byte) :=
  match f with
  | .hc => decodeRows .hc hcRows .reservedOp bytes
  | .sel => decodeRows .sel selRows .selectsNothing bytes
  | .w1 =>
    match bytes with
    | b0 :: rest =>
      if [b0] = Config.frameReset then .ok (.wrReset, rest) else .error .notACommandFrame
    | _ => .error .truncated
  | .w3 =>
    match bytes with
    | b0 :: b1 :: b2 :: rest =>
      if [b0, b1, b2] = Config.frameInit then .ok (.wrInit, rest)
      else if [b0, b1, b2] = Config.frameTrigger then .ok (.wrTrigger, rest)
      else .error .notACommandFrame
    | _ => .error .truncated
  | .r1 =>
    match bytes with
    | _ :: rest => .ok (.rdStatus, rest)
    | _ => .error .truncated
  | .r6 =>
    match bytes with
    | _ :: _ :: _ :: _ :: _ :: _ :: rest => .ok (.rdMeasure, rest)
    | _ => .error .truncated
  | .s8 =>
    match bytes with
    | s :: rest => .ok (.decodeStatus s, rest)
    | _ => .error .truncated
  | .d40 =>
    match bytes with
    | b0 :: b1 :: b2 :: b3 :: b4 :: rest => .ok (.decodeFrame b0 b1 b2 b3 b4, rest)
    | _ => .error .truncated

/-! ### The encoder -/

/-- The format an operation's own word has: `HC` for a host operation, the command frame for a write, `SEL` for a
delay or a read (their only pattern that the block itself makes), the input for a decode function (R91). -/
def Instr.format : Instr → Format
  | .hostReset => .hc
  | .hostInitialize => .hc
  | .hostMeasure => .hc
  | .wrReset => .w1
  | .wrInit => .w3
  | .wrTrigger => .w3
  | .dlyPoweron => .sel
  | .dlySettle => .sel
  | .rdStatus => .sel
  | .rdMeasure => .sel
  | .decodeStatus _ => .s8
  | .decodeFrame _ _ _ _ _ => .d40

/-- The bytes of an operation's own word, the first on the channel first (R61, R81 to R83, R86, R87, R91). -/
def encode : Instr → List Byte
  | .hostReset => [0x00]
  | .hostInitialize => [0x01]
  | .hostMeasure => [0x02]
  | .wrReset => [0xBA]
  | .wrInit => [0xE1, 0x08, 0x00]
  | .wrTrigger => [0xAC, 0x33, 0x00]
  | .dlyPoweron => [0x09]
  | .dlySettle => [0x03]
  | .rdStatus => [0x0C]
  | .rdMeasure => [0x14]
  | .decodeStatus s => [s]
  | .decodeFrame b0 b1 b2 b3 b4 => [b0, b1, b2, b3, b4]

/-! ### The opcode table's numbering (log entry 7) -/

/-- The `n` bytes of a number, the most significant first: the table writes a frame's first byte in the highest
bits (`WR_INIT` is 0xE10800). -/
def bytesOf : Nat → Nat → List Byte
  | 0, _ => []
  | n + 1, w => BitVec.ofNat 8 (w / 2 ^ (8 * n)) :: bytesOf n w

/-- The formats a table word of `nbits` bits can have, in the order they are tried.
DESIGN CHOICE (log entry 7): the one-byte formats share their patterns and the table gives no format here. -/
def tableFormats (nbits : Nat) : List Format :=
  if nbits ≤ 8 then [.w1, .hc, .sel, .s8]
  else if nbits = 24 then [.w3]
  else if nbits = 40 then [.d40]
  else if nbits = 48 then [.r6]
  else []

/-- The table word `w` read in one format: the format, its bytes and the operation. -/
def readTableWord (w : Nat) (f : Format) : Option (Format × List Byte × Instr) :=
  if w < 2 ^ (8 * f.bytes) then
    match decode f (bytesOf f.bytes w) with
    | .ok (i, _) => some (f, bytesOf f.bytes w, i)
    | .error _ => none
  else none

/-- The first format that reads the table word. -/
def findTableWord (nbits w : Nat) : Option (Format × List Byte × Instr) :=
  (tableFormats nbits).findSome? (readTableWord w)

/-- The operation the decoder reads from a word numbered as spec/opcode_table.json numbers it. -/
def decodeTableWord (nbits w : Nat) : Option Instr :=
  (findTableWord nbits w).map fun r => r.2.2

end Sys2Proof
end

