-- ==== Sys2Proof/Machine/State.lean ====
section
/-!
DEFINITION. The state of the block (spec/10_state.md R20 to R37), the transactions at its interfaces
(spec/00_scope.md R8), the answers of its environment as plain data, and the state after reset (R36, R220).
-/

namespace Sys2Proof.Machine

/-- `st`, the state register (R21). -/
inductive SeqState where
  | idle
  | initializing
  | ready
  | measuring
  deriving DecidableEq, Repr

/-- `mode`, the three values of the status byte's mode field (R28). -/
inductive Mode where
  | normal
  | cyclic
  | command
  deriving DecidableEq, Repr

/-- `result_reg`, the result code of an operation (R29). -/
inductive ResultCode where
  | ok
  | transportError
  | shortRead
  | deviceBusy
  | notCalibrated
  | notReady
  | illegalOp
  deriving DecidableEq, Repr

/-- The receive buffer `rx[0..5]` (R25): `rx[0]` holds the status byte, `rx[i+1]` the data byte `b_i`. -/
structure RxBuf where
  r0 : Byte
  r1 : Byte
  r2 : Byte
  r3 : Byte
  r4 : Byte
  r5 : Byte
  deriving DecidableEq, Repr

/-- The transport's answer to a `MemWrite` (R52, R55). -/
inductive WrAnswer where
  /-- `WrOk` -/
  | ok
  /-- `WrErr` -/
  | err
  deriving DecidableEq, Repr

/-- The transport's answer to a `MemRead` (R53): `RdErr`, or `RdOk(k, bytes)` with `k` the length of the list,
which fits in 3 bits. -/
inductive RdAnswer where
  /-- `RdErr` -/
  | err
  /-- `RdOk(k, bytes)` -/
  | ok (bytes : { l : List Byte // l.length ≤ 7 })
  deriving DecidableEq, Repr

/-- An input presented to a decoder instantiated alone (R120, R130; decision D23; log entry 10). -/
inductive DecInput where
  | status (s : Byte)
  | frame (b0 b1 b2 b3 b4 : Byte)
  deriving DecidableEq, Repr

/-- The outputs of `DECODE_STATUS` (R120). -/
structure StatusOut where
  busy : Bool
  mode : Mode
  calibrated : Bool
  deriving DecidableEq, Repr

/-- The outputs of `DECODE_FRAME` (R130). -/
structure FrameOut where
  humRaw : Raw
  tempRaw : Raw
  humidityPct : Bits32
  temperatureC : Bits32
  deriving DecidableEq, Repr

/-- The status part of a response (R31, R90). -/
structure StatusPart where
  raw : Byte
  busy : Bool
  calibrated : Bool
  mode : Mode
  deriving DecidableEq, Repr

/-- The response word, format `HR` (R90), as a record; a part whose valid flag is 0 is absent (R31, U2). -/
structure Response where
  result : ResultCode
  status : Option StatusPart
  meas : Option FrameOut
  deriving DecidableEq, Repr

/-- A transaction at one of the block's interfaces (R8). -/
inductive Event where
  /-- the block accepts `Cmd(op)` -/
  | cmd (op : HostWord)
  /-- `MemWrite(addr, n, v)`, `n` the length of the list -/
  | memWrite (addr : DevAddr) (bytes : List Byte)
  /-- the transport answers a write -/
  | wrAnswer (a : WrAnswer)
  /-- `MemRead(addr, n)` -/
  | memRead (addr : DevAddr) (n : Count)
  /-- the transport answers a read -/
  | rdAnswer (a : RdAnswer)
  /-- `Delay(ms)` -/
  | delay (ms : Millis)
  /-- `DlyDone` -/
  | dlyDone
  /-- the host takes `Rsp(result, payload)` -/
  | rsp (r : Response)
  /-- the parser used alone gives its outputs (D23) -/
  | statusDecoded (s : Byte) (out : StatusOut)
  /-- the frame decoder used alone gives its outputs (D23) -/
  | frameDecoded (b0 b1 b2 b3 b4 : Byte) (out : FrameOut)
  deriving DecidableEq, Repr

/-- The machine: the registers of R20, and what the environment will do and has seen. -/
structure State where
  /-- the state register (R21) -/
  st : SeqState
  /-- the micro-sequence register (R24) -/
  phase : Phase
  /-- the operation in progress (R23) -/
  curOp : HostOp
  /-- the receive buffer (R25, R26) -/
  rx : RxBuf
  /-- `result_reg` (R29) -/
  resultReg : ResultCode
  /-- `status_valid` (R31) -/
  statusValid : Bool
  /-- `meas_valid` (R31) -/
  measValid : Bool
  /-- `status_raw` (R27) -/
  statusRaw : Byte
  /-- `busy` (R27) -/
  busy : Bool
  /-- `calibrated` (R27) -/
  calibrated : Bool
  /-- `mode` (R28) -/
  mode : Mode
  /-- `hum_raw` (R30) -/
  humRaw : Raw
  /-- `temp_raw` (R30) -/
  tempRaw : Raw
  /-- `humidity_pct`, a binary32 pattern (R30) -/
  humidityPct : Bits32
  /-- `temperature_c`, a binary32 pattern (R30) -/
  temperatureC : Bits32
  /-- the commands the host presents, oldest first (R32; log entry 1) -/
  cmds : List HostWord
  /-- the transport's answers to the writes to come (R57; log entry 1) -/
  wrAnswers : List WrAnswer
  /-- the transport's answers to the reads to come (R57; log entry 1) -/
  rdAnswers : List RdAnswer
  /-- how many more delays the delay unit answers (R59, R237; log entry 1) -/
  dlyDones : Nat
  /-- how many more responses the host takes (R159, R237; log entry 1) -/
  rspTakes : Nat
  /-- the inputs presented to the decoders used alone (D23; log entry 10) -/
  decIn : List DecInput
  /-- the transactions so far, the newest first (R8; log entry 3) -/
  trace : List Event
  deriving DecidableEq, Repr

/-- Why the machine stops. Neither stop is the spec's: its failures are responses, hence next states (R190). -/
inductive Fault where
  /-- Raised by the meaning of a micro-operation in a state whose `cur_op` and `phase` do not select it (R91).
  Safe: the block never performs it there (log entry 9). -/
  | notSelected
  /-- Raised by `step` where the fetched word is no operation, op code 3 apart (R91).
  Safe: only a state that breaks the invariant of R22 fetches such a word (log entry 9). -/
  | undecodable (e : DecodeError)
  deriving DecidableEq, Repr

/-- Why the model gives an instruction no meaning. -/
inductive Refusal where
  /-- Raised by `exec` for an instruction without a meaning: none at present. Safe. -/
  | notModelled (mnemonic : String)
  deriving DecidableEq, Repr

/-- The state after reset (R36, R220): `st = Idle`, `phase = P_IDLE`, nothing outstanding.
DESIGN CHOICE, unsafe (log entry 4): R36 gives every other register no value, and the model gives it zero.
DESIGN CHOICE (log entry 5): the environment's fields are empty. -/
def State.reset : State where
  st := .idle
  phase := .idle
  curOp := .reset
  rx := ⟨0, 0, 0, 0, 0, 0⟩
  resultReg := .ok
  statusValid := false
  measValid := false
  statusRaw := 0
  busy := false
  calibrated := false
  mode := .normal
  humRaw := 0
  tempRaw := 0
  humidityPct := 0
  temperatureC := 0
  cmds := []
  wrAnswers := []
  rdAnswers := []
  dlyDones := 0
  rspTakes := 0
  decIn := []
  trace := []

end Sys2Proof.Machine
end

