-- ==== Sys2Proof/Machine/Flags.lean ====
section
/-!
DEFINITION. The status byte parser (spec/42_status_decoder.md R120 to R126): the three status flags of a byte.
-/

namespace Sys2Proof.Machine

/-- `busy = (s > 0x7F)`, an unsigned comparison (R121). -/
def statusBusy (s : Byte) : Bool :=
  Config.busyLimit.toNat < s.toNat

/-- `mode`: the byte masked with `0x60` (R122). -/
def statusMode (s : Byte) : Mode :=
  if s &&& Config.modeMask = 0x00 then .normal
  else if s &&& Config.modeMask = 0x20 then .cyclic
  else .command

/-- `calibrated = ((s & 0x08) = 0x08)` (R123). -/
def statusCalibrated (s : Byte) : Bool :=
  s &&& Config.calMask = Config.calMask

/-- `DECODE_STATUS(s)` (R120): total, reads nothing else, raises nothing (R124). -/
def parseStatus (s : Byte) : StatusOut where
  busy := statusBusy s
  mode := statusMode s
  calibrated := statusCalibrated s

end Sys2Proof.Machine
end

