-- ==== Sys2Proof/Machine/Operands.lean ====
section
/-!
DEFINITION. The operand forms: the bytes of a response frame into the receive buffer (spec/41_response_reader.md
R117), the two 20-bit fields out of the data frame (spec/30_encoding.md R88, R89), and the numeric codes of the
control fields (spec/10_state.md R21, R28, R29).
-/

namespace Sys2Proof.Machine

/-- `humidity_raw` (R88, R131): each piece is widened to 20 bits before it is shifted (R133). -/
def humidityRaw (b0 b1 b2 : Byte) : Raw :=
  (b0.setWidth 20 <<< 12) ||| (b1.setWidth 20 <<< 4) ||| (b2 >>> 4).setWidth 20

/-- `temperature_raw` (R89, R132). -/
def temperatureRaw (b2 b3 b4 : Byte) : Raw :=
  ((b2 &&& 0x0F).setWidth 20 <<< 16) ||| (b3.setWidth 20 <<< 8) ||| b4.setWidth 20

/-- The data frame that holds two raw fields, the inverse of the extraction (R143), first byte first. -/
def frameBytes (h t : Raw) : List Byte :=
  [ h.extractLsb' 12 8,
    h.extractLsb' 4 8,
    ((h.extractLsb' 0 4).setWidth 8 <<< 4) ||| (t.extractLsb' 16 4).setWidth 8,
    t.extractLsb' 8 8,
    t.extractLsb' 0 8 ]

/-- `rx[i]` after a complete read of `n` bytes: `bytes[i]` for `i < n`, else the old byte (R117). -/
def rxByte (n : Nat) (bytes : List Byte) (i : Nat) (old : Byte) : Byte :=
  if i < n then bytes.getD i old else old

/-- The receive buffer after a complete read of `n` bytes (R117). -/
def RxBuf.fill (rx : RxBuf) (n : Nat) (bytes : List Byte) : RxBuf where
  r0 := rxByte n bytes 0 rx.r0
  r1 := rxByte n bytes 1 rx.r1
  r2 := rxByte n bytes 2 rx.r2
  r3 := rxByte n bytes 3 rx.r3
  r4 := rxByte n bytes 4 rx.r4
  r5 := rxByte n bytes 5 rx.r5

/-- The length of the read of an operation: 1 for `INITIALIZE`, else 6 (R157). -/
def readLength : HostOp → Count
  | .init => Config.lenStatus
  | .measure => Config.lenMeasure
  | .reset => Config.lenMeasure

/-- The encoding of `st` (R21). -/
def SeqState.code : SeqState → BitVec 2
  | .idle => 0
  | .initializing => 1
  | .ready => 2
  | .measuring => 3

/-- The encoding of `mode` (R28); 3 is never produced. -/
def Mode.code : Mode → BitVec 2
  | .normal => 0
  | .cyclic => 1
  | .command => 2

/-- The encoding of `result_reg` (R29); 7 is never produced. -/
def ResultCode.code : ResultCode → BitVec 3
  | .ok => 0
  | .transportError => 1
  | .shortRead => 2
  | .deviceBusy => 3
  | .notCalibrated => 4
  | .notReady => 5
  | .illegalOp => 6

end Sys2Proof.Machine
end

