-- ==== Sys2Proof/Machine/Float32.lean ====
section
/-!
DEFINITION. The binary32 arithmetic of the frame decoder (spec/43_frame_decoder.md R137): every operation is
computed exactly on natural numbers and rounded once, to nearest, ties to even.
Only finite values occur (R140), so infinities and NaN are no operands here (log entry 12).
-/

namespace Sys2Proof.Machine

/-- A finite binary32 value, `(-1)^neg * sig * 2^ex` in units of `2^-149`, the least subnormal.
Kept in the format's own form by `roundF32`: `sig < 2^24`, and `2^23 ≤ sig` unless `ex = 0`. -/
structure F32 where
  neg : Bool
  sig : Nat
  ex : Nat
  deriving DecidableEq, Repr

/-- The quotient of two naturals to the nearest natural, ties to even. -/
def roundDiv (num den : Nat) : Nat :=
  let q := num / den
  let r := num % den
  if den < 2 * r ∨ (2 * r = den ∧ q % 2 = 1) then q + 1 else q

/-- How many units of `2^-149` (as a power of two) one step of the significand weighs for a magnitude of
`num / den` such units: a significand of 24 bits, or fewer below the normal range. -/
def ulpExp (num den : Nat) : Nat :=
  (num / den).log2 - 23

/-- `num / den` units of `2^-149`, rounded to binary32, ties to even (R137). -/
def roundF32 (neg : Bool) (num den : Nat) : F32 :=
  let ex := ulpExp num den
  let sig := roundDiv num (den * 2 ^ ex)
  if sig = 2 ^ 24 then ⟨neg, 2 ^ 23, ex + 1⟩ else ⟨neg, sig, ex⟩

/-- `u2f(v)` (R137 item 2). -/
def u2f (v : Nat) : F32 :=
  roundF32 false (v * 2 ^ 149) 1

/-- `fmul(a, b)` (R137 item 4). -/
def fmul (a b : F32) : F32 :=
  roundF32 (a.neg != b.neg) (a.sig * b.sig * 2 ^ (a.ex + b.ex - 149)) (2 ^ (149 - (a.ex + b.ex)))

/-- `fdiv(a, b)` for a nonzero `b` (R137 item 3). -/
def fdiv (a b : F32) : F32 :=
  roundF32 (a.neg != b.neg) (a.sig * 2 ^ (a.ex + 149 - b.ex)) (b.sig * 2 ^ (b.ex - (a.ex + 149)))

/-- A value as an integer in units of `2^-149`. -/
def F32.toInt (a : F32) : Int :=
  if a.neg then -((a.sig * 2 ^ a.ex : Nat) : Int) else ((a.sig * 2 ^ a.ex : Nat) : Int)

/-- `fsub(a, b)` (R137 item 5); a difference of equal numbers is positive zero (R140), but for
`(-0) - (+0)`, which is negative zero. -/
def fsub (a b : F32) : F32 :=
  let d := a.toInt - b.toInt
  roundF32 (if d = 0 then a.neg && !b.neg && a.sig == 0 else d < 0) d.natAbs 1

/-- `bits(f)` (spec/00_scope.md section 6): a magnitude beyond the largest finite one gives the pattern of infinity. -/
def F32.bits (a : F32) : Bits32 :=
  BitVec.ofNat 32 ((if a.neg then 2 ^ 31 else 0) + min (a.ex * 2 ^ 23 + a.sig) 0x7F800000)

/-- `humidity_pct` of a raw field, evaluated left to right (R135, R137). -/
def humidityPctOf (raw : Raw) : Bits32 :=
  (fmul (fdiv (u2f raw.toNat) (u2f Config.scaleDivisor)) (u2f Config.humScale)).bits

/-- `temperature_c` of a raw field, evaluated left to right (R136, R137). -/
def temperatureCOf (raw : Raw) : Bits32 :=
  (fsub (fmul (fdiv (u2f raw.toNat) (u2f Config.scaleDivisor)) (u2f Config.tempScale))
    (u2f Config.tempOffset)).bits

/-- `DECODE_FRAME(b0, b1, b2, b3, b4)` (R130): total, reads nothing else, raises nothing (R142). -/
def parseFrame (b0 b1 b2 b3 b4 : Byte) : FrameOut where
  humRaw := humidityRaw b0 b1 b2
  tempRaw := temperatureRaw b2 b3 b4
  humidityPct := humidityPctOf (humidityRaw b0 b1 b2)
  temperatureC := temperatureCOf (temperatureRaw b2 b3 b4)

end Sys2Proof.Machine
end

