-- ==== Sys2Proof/Machine/Ops.lean ====
section
/-!
DEFINITION. The named operations over the state: its updates, the three requests, the response and its taking,
the entry of a failure (spec/60_exceptions.md R190), and the four waits of a micro-operation
(spec/44_operations.md R150 to R160).
-/

namespace Sys2Proof.Machine

/-! ### Updates -/

/-- Writes `st`. -/
def State.setSt (s : State) (v : SeqState) : State := { s with st := v }

/-- Writes `phase`. -/
def State.setPhase (s : State) (v : Phase) : State := { s with phase := v }

/-- Writes `cur_op`. -/
def State.setCurOp (s : State) (v : HostOp) : State := { s with curOp := v }

/-- Writes the receive buffer. -/
def State.setRx (s : State) (v : RxBuf) : State := { s with rx := v }

/-- Writes `result_reg` and the two valid flags. -/
def State.setResult (s : State) (r : ResultCode) (sv mv : Bool) : State :=
  { s with resultReg := r, statusValid := sv, measValid := mv }

/-- Writes `status_raw` and the three status flags. -/
def State.setStatus (s : State) (raw : Byte) (o : StatusOut) : State :=
  { s with statusRaw := raw, busy := o.busy, calibrated := o.calibrated, mode := o.mode }

/-- Writes the four measurement registers. -/
def State.setMeas (s : State) (o : FrameOut) : State :=
  { s with humRaw := o.humRaw, tempRaw := o.tempRaw, humidityPct := o.humidityPct, temperatureC := o.temperatureC }

/-- Adds a transaction to the trace. -/
def State.record (s : State) (e : Event) : State := { s with trace := e :: s.trace }

/-- Leaves these commands with the host. -/
def State.setCmds (s : State) (l : List HostWord) : State := { s with cmds := l }

/-- Leaves these write answers to come. -/
def State.setWrAnswers (s : State) (l : List WrAnswer) : State := { s with wrAnswers := l }

/-- Leaves these read answers to come. -/
def State.setRdAnswers (s : State) (l : List RdAnswer) : State := { s with rdAnswers := l }

/-- Leaves this many delay answers to come. -/
def State.setDlyDones (s : State) (n : Nat) : State := { s with dlyDones := n }

/-- Leaves this many responses that the host will take. -/
def State.setRspTakes (s : State) (n : Nat) : State := { s with rspTakes := n }

/-- Leaves these inputs at the decoders used alone. -/
def State.setDecIn (s : State) (l : List DecInput) : State := { s with decIn := l }

/-! ### Requests (R52, R53, R59): each enters the phase that waits for its answer (R24) -/

/-- Issues `MemWrite(0x38, n, frame)` and enters `P_WR`. -/
def issueWrite (frame : List Byte) (s : State) : State :=
  (s.record (.memWrite Config.devAddr frame)).setPhase .wr

/-- Issues `MemRead(0x38, n)` and enters `P_RD`. -/
def issueRead (n : Count) (s : State) : State :=
  (s.record (.memRead Config.devAddr n)).setPhase .rd

/-- Issues `Delay(ms)` and enters the delay phase `p`. -/
def issueDelay (p : Phase) (ms : Millis) (s : State) : State :=
  (s.record (.delay ms)).setPhase p

/-! ### The response (R31, R159, R160) -/

/-- `respond(result, payload)` (R160): the valid flags say which parts the payload has. -/
def respond (r : ResultCode) (sv mv : Bool) (s : State) : State :=
  (s.setResult r sv mv).setPhase .rsp

/-- The status part that the registers hold. -/
def State.statusPart (s : State) : StatusPart :=
  ⟨s.statusRaw, s.busy, s.calibrated, s.mode⟩

/-- The measurement part that the registers hold. -/
def State.measPart (s : State) : FrameOut :=
  ⟨s.humRaw, s.tempRaw, s.humidityPct, s.temperatureC⟩

/-- What the block offers in `P_RSP`: a part whose valid flag is 0 is absent (R31, U2). -/
def State.response (s : State) : Response where
  result := s.resultReg
  status := if s.statusValid then some s.statusPart else none
  meas := if s.measValid then some s.measPart else none

/-- The host takes the response (R159), which is also how a failure is over (R192): `phase <- P_IDLE` and nothing
else changes in the block. -/
def takeResponse (s : State) : State :=
  ((s.record (.rsp s.response)).setRspTakes (s.rspTakes - 1)).setPhase .idle

/-! ### Failures (R180 to R190) -/

/-- The six failures (R180). -/
inductive Failure where
  | transportError
  | shortRead
  | deviceBusy
  | notCalibrated
  | notReady
  | illegalOp
  deriving DecidableEq, Repr

/-- The result code of a failure (R180). -/
def Failure.code : Failure → ResultCode
  | .transportError => .transportError
  | .shortRead => .shortRead
  | .deviceBusy => .deviceBusy
  | .notCalibrated => .notCalibrated
  | .notReady => .notReady
  | .illegalOp => .illegalOp

/-- Whether the response of a failure carries the status (R190). -/
def Failure.carriesStatus : Failure → Bool
  | .deviceBusy => true
  | .notCalibrated => true
  | .transportError => false
  | .shortRead => false
  | .notReady => false
  | .illegalOp => false

/-- `st` after an operation that failed on its way (R190): `Ready` for `MEASURE`, `Idle` for the others. -/
def failedSt : HostOp → SeqState
  | .measure => .ready
  | .init => .idle
  | .reset => .idle

/-- `st` after a failure (R190): unchanged on a refusal of the command, which is tested first because `cur_op` may
be stale, else that of the operation. -/
def failSt (e : Failure) (s : State) : SeqState :=
  match e with
  | .notReady => s.st
  | .illegalOp => s.st
  | .transportError => failedSt s.curOp
  | .shortRead => failedSt s.curOp
  | .deviceBusy => failedSt s.curOp
  | .notCalibrated => failedSt s.curOp

/-- `raise E(info)` (R190), the whole effect of a failure. -/
def raise (e : Failure) (s : State) : State :=
  respond e.code e.carriesStatus false (s.setSt (failSt e s))

/-! ### Taking an answer -/

/-- What a step of the machine answers. -/
abbrev Result := Host.Outcome State Fault Refusal

/-- A command's effect where the block accepts commands; elsewhere the command waits with the host (R32). -/
def accepting (s : State) (k : State → State) : Result :=
  if s.phase = .idle then .next (k s) else .next s

/-- A micro-operation's effect where `cur_op` and `phase` select it (R91). -/
def selected (sel : Bool) (r : Result) : Result :=
  if sel then r else .fault .notSelected

/-- Waits for `DlyDone` (R150, R237), then goes on. -/
def awaitDelay (s : State) (k : State → State) : Result :=
  match s.dlyDones with
  | 0 => .next s
  | n + 1 => .next (k ((s.setDlyDones n).record .dlyDone))

/-- Waits for the write answer (R156, R237): `WrErr` raises `TransportError`, on `WrOk` the operation goes on. -/
def awaitWrite (s : State) (k : State → State) : Result :=
  match s.wrAnswers with
  | [] => .next s
  | .err :: rest => .next (raise .transportError ((s.setWrAnswers rest).record (.wrAnswer .err)))
  | .ok :: rest => .next (k ((s.setWrAnswers rest).record (.wrAnswer .ok)))

/-- `status_raw <- rx[0]` and the decoded flags (R158). -/
def latchStatus (s : State) : State :=
  s.setStatus s.rx.r0 (parseStatus s.rx.r0)

/-- The buffer fill of a complete read of `n` bytes (R117) and the decode of its status byte (R158). -/
def receive (n : Nat) (bytes : List Byte) (s : State) : State :=
  latchStatus (s.setRx (s.rx.fill n bytes))

/-- Waits for the read answer (R158, R237), in the order of R187: `RdErr` raises `TransportError`, fewer than `n`
bytes raise `ShortRead`, and with `n` bytes or more the operation goes on with the first `n` (R54). -/
def awaitRead (n : Nat) (s : State) (k : State → State) : Result :=
  match s.rdAnswers with
  | [] => .next s
  | .err :: rest => .next (raise .transportError ((s.setRdAnswers rest).record (.rdAnswer .err)))
  | .ok bytes :: rest =>
    let s1 := (s.setRdAnswers rest).record (.rdAnswer (.ok bytes))
    if bytes.val.length < n then .next (raise .shortRead s1)
    else .next (k (receive n bytes.val s1))

/-- The measurement registers from `rx[1..5]` (R158, R130). -/
def latchMeas (s : State) : State :=
  s.setMeas (parseFrame s.rx.r1 s.rx.r2 s.rx.r3 s.rx.r4 s.rx.r5)

/-- The end of `MEASURE` once the frame has arrived (R158): busy is tested before not calibrated (R187), and the
data bytes are looked at only when both tests pass (R144). -/
def finishMeasure (s : State) : State :=
  if s.busy then raise .deviceBusy s
  else if s.calibrated then respond .ok true true ((latchMeas s).setSt .ready)
  else raise .notCalibrated s

end Sys2Proof.Machine
end

