-- ==== Sys2Proof/Machine/Decoders.lean ====
section
/-!
DEFINITION. The decode functions used alone (spec/42_status_decoder.md R120, spec/43_frame_decoder.md R130,
decision D23): the outputs appear at the decoder, and no register of the block is written.
Inside an operation the same functions are used by RD_STATUS and RD_MEASURE.
-/

namespace Sys2Proof.Machine

/-- `DECODE_STATUS(s)` used alone (R120: "Used alone it writes nothing"). -/
def execDecodeStatus (b : Byte) (s : State) : Result :=
  .next (s.record (.statusDecoded b (parseStatus b)))

/-- `DECODE_FRAME(b0, b1, b2, b3, b4)` used alone (R130, R142). -/
def execDecodeFrame (b0 b1 b2 b3 b4 : Byte) (s : State) : Result :=
  .next (s.record (.frameDecoded b0 b1 b2 b3 b4 (parseFrame b0 b1 b2 b3 b4)))

end Sys2Proof.Machine
end

