-- ==== Sys2Proof/Machine/HostOps.lean ====
section
/-!
DEFINITION. The host operations (spec/44_operations.md R151 to R154): what accepting each command does.
The rest of an operation's course is its micro-operations, one step each.
-/

namespace Sys2Proof.Machine

/-- `RESET` (R151, R152): writes `FRAME_RESET`; `st` stays until the write is answered. -/
def execHostReset (s : State) : Result :=
  accepting s fun s => issueWrite Config.frameReset (s.setCurOp .reset)

/-- `INITIALIZE` (R151, R153): accepted from `Idle` and from `Ready` alike; begins with the power-on delay. -/
def execHostInitialize (s : State) : Result :=
  accepting s fun s => issueDelay .dly0 Config.powerOnMs ((s.setCurOp .init).setSt .initializing)

/-- `MEASURE` (R151, R154): writes `FRAME_TRIGGER` in `Ready`, else raises `NotReady` (R163). -/
def execHostMeasure (s : State) : Result :=
  accepting s fun s =>
    if s.st = .ready then issueWrite Config.frameTrigger ((s.setCurOp .measure).setSt .measuring)
    else raise .notReady (s.setCurOp .measure)

end Sys2Proof.Machine
end

