-- ==== Sys2Proof/Machine/Issuer.lean ====
section
/-!
DEFINITION. The Command Issuer's write micro-operations (spec/40_command_issuer.md R100 to R105): the step that
takes the answer to the write (spec/44_operations.md R156). The write itself was issued on entering `P_WR`.
-/

namespace Sys2Proof.Machine

/-- `WR_RESET` (R100, R156): on `WrOk` the `RESET` ends with `OK` in `Idle`. -/
def execWrReset (s : State) : Result :=
  selected (s.curOp = .reset ∧ s.phase = .wr) <|
    awaitWrite s fun s => respond .ok false false (s.setSt .idle)

/-- `WR_INIT` (R101, R156): on `WrOk` the settling delay follows (R111). -/
def execWrInit (s : State) : Result :=
  selected (s.curOp = .init ∧ s.phase = .wr) <|
    awaitWrite s (issueDelay .dly1 Config.settleMs)

/-- `WR_TRIGGER` (R102, R156): on `WrOk` the settling delay follows (R111). -/
def execWrTrigger (s : State) : Result :=
  selected (s.curOp = .measure ∧ s.phase = .wr) <|
    awaitWrite s (issueDelay .dly1 Config.settleMs)

end Sys2Proof.Machine
end

