-- ==== Sys2Proof/Machine/Reader.lean ====
section
/-!
DEFINITION. The Response Reader's delay and read micro-operations (spec/41_response_reader.md R110 to R117): the
step that takes the answer (spec/44_operations.md R155, R157, R158). The request itself was issued on entering the
phase.
-/

namespace Sys2Proof.Machine

/-- `DLY_POWERON` (R110, R155): after it comes the write of `FRAME_INIT`. -/
def execDlyPoweron (s : State) : Result :=
  selected (s.curOp = .init ∧ s.phase = .dly0) <|
    awaitDelay s (issueWrite Config.frameInit)

/-- `DLY_SETTLE` (R111, R157): after it comes the read, of 1 byte for `INITIALIZE` and of 6 else.
Its selection does not test `cur_op`, as the table's mask does not (log entry 8). -/
def execDlySettle (s : State) : Result :=
  selected (s.phase = .dly1) <|
    awaitDelay s fun s => issueRead (readLength s.curOp) s

/-- `RD_STATUS` (R112, R158): a complete read ends `INITIALIZE` with `OK`, whatever the flags say (D11). -/
def execRdStatus (s : State) : Result :=
  selected (s.curOp = .init ∧ s.phase = .rd) <|
    awaitRead Config.lenStatus.toNat s fun s => respond .ok true false (s.setSt .ready)

/-- `RD_MEASURE` (R113, R158). -/
def execRdMeasure (s : State) : Result :=
  selected (s.curOp = .measure ∧ s.phase = .rd) <|
    awaitRead Config.lenMeasure.toNat s finishMeasure

end Sys2Proof.Machine
end

