-- ==== Sys2Proof/Machine/Dispatch.lean ====
section
/-!
DEFINITION. What an operation does: one arm per row of spec/opcode_table.json (spec/30_encoding.md R91).
-/

namespace Sys2Proof.Machine

def exec (i : Instr) (s : State) : Host.Outcome State Fault Refusal :=
  match i with
  | .hostReset => Sys2Proof.Machine.execHostReset s
  | .hostInitialize => Sys2Proof.Machine.execHostInitialize s
  | .hostMeasure => Sys2Proof.Machine.execHostMeasure s
  | .wrReset => Sys2Proof.Machine.execWrReset s
  | .wrInit => Sys2Proof.Machine.execWrInit s
  | .wrTrigger => Sys2Proof.Machine.execWrTrigger s
  | .dlyPoweron => Sys2Proof.Machine.execDlyPoweron s
  | .dlySettle => Sys2Proof.Machine.execDlySettle s
  | .rdStatus => Sys2Proof.Machine.execRdStatus s
  | .rdMeasure => Sys2Proof.Machine.execRdMeasure s
  | .decodeStatus b => Sys2Proof.Machine.execDecodeStatus b s
  | .decodeFrame b0 b1 b2 b3 b4 => Sys2Proof.Machine.execDecodeFrame b0 b1 b2 b3 b4 s

end Sys2Proof.Machine
end

