-- ==== Sys2Proof/Machine/Fetch.lean ====
section
/-!
DEFINITION. What the machine does next (spec/44_operations.md R150): in `P_IDLE` the word is the host's command,
in `P_RSP` the host takes the response, in the other phases the word is `SEL` (spec/30_encoding.md R91).
-/

namespace Sys2Proof.Machine

/-- What a step finds to do. -/
inductive Fetched where
  /-- nothing: the awaited event has not come (R237) -/
  | wait
  /-- the host takes the response (R159) -/
  | deliver
  /-- a word in a format, and the state once the word is taken -/
  | word (f : Format) (bytes : List Byte) (s : State)
  deriving DecidableEq, Repr

/-- The selector the block's own state makes (R91). -/
def State.sel (s : State) : Byte :=
  (selWord s.curOp s.phase).setWidth 8

/-- The format and the bytes of an input at a decoder used alone (R86, R87). -/
def DecInput.word : DecInput → Format × List Byte
  | .status s => (.s8, [s])
  | .frame b0 b1 b2 b3 b4 => (.d40, [b0, b1, b2, b3, b4])

/-- The block accepts the host's first command (R150, R32). -/
def acceptCmd (op : HostWord) (rest : List HostWord) (s : State) : State :=
  (s.setCmds rest).record (.cmd op)

/-- What the sequencer finds to do (R24). -/
def fetchSequencer (s : State) : Fetched :=
  match s.phase with
  | .idle =>
    match s.cmds with
    | [] => .wait
    | op :: rest => .word .hc [op.setWidth 8] (acceptCmd op rest s)
  | .rsp =>
    match s.rspTakes with
    | 0 => .wait
    | _ + 1 => .deliver
  | .dly0 => .word .sel [s.sel] s
  | .wr => .word .sel [s.sel] s
  | .dly1 => .word .sel [s.sel] s
  | .rd => .word .sel [s.sel] s

/-- What a step finds to do: an input at a decoder used alone is served first (log entry 10), then the
sequencer. -/
def fetch (s : State) : Fetched :=
  match s.decIn with
  | d :: rest => .word d.word.1 d.word.2 (s.setDecIn rest)
  | [] => fetchSequencer s

/-- A word that is no operation: op code 3 raises `IllegalOp` (R92, R164), any other stops the machine
(log entry 9). -/
def rejectWord (e : DecodeError) (s : State) : Result :=
  match e with
  | .reservedOp => .next (raise .illegalOp s)
  | .truncated => .fault (.undecodable .truncated)
  | .strayBits => .fault (.undecodable .strayBits)
  | .notACommandFrame => .fault (.undecodable .notACommandFrame)
  | .selectsNothing => .fault (.undecodable .selectsNothing)

/-! ### Placing a table word where the next step fetches (log entry 18) -/

/-- A read answer for `withFetchWord`: the frame, or a complete frame of zeros where it does not fit. -/
def frameAnswer (bytes : List Byte) : RdAnswer :=
  if h : bytes.length ≤ 7 then .ok ⟨bytes, h⟩ else .ok ⟨[0, 0, 0, 0, 0, 0], by decide⟩

/-- The state in which the sequencer fetches the micro-operation of `op` and `p`. -/
def placeSel (op : HostOp) (p : Phase) (s : State) : State :=
  ((s.setDecIn []).setCurOp op).setPhase p

/-- The state in which the sequencer fetches the host command `op`. -/
def placeCmd (op : HostWord) (s : State) : State :=
  ((s.setDecIn []).setPhase .idle).setCmds (op :: s.cmds)

/-- A write answer is there to be taken. -/
def ensureWrAnswer (s : State) : State :=
  if s.wrAnswers = [] then s.setWrAnswers [.ok] else s

/-- A delay answer is there to be taken. -/
def ensureDlyDone (s : State) : State :=
  if s.dlyDones = 0 then s.setDlyDones 1 else s

/-- A read answer is there to be taken. -/
def ensureRdAnswer (s : State) : State :=
  if s.rdAnswers = [] then s.setRdAnswers [frameAnswer [0, 0, 0, 0, 0, 0]] else s

/-- `cur_op` of a `SEL` byte, `RESET` for the value 3 that `cur_op` never holds (R37). -/
def selOp (b : Byte) : HostOp :=
  (HostOp.ofCode (b.extractLsb' 3 2)).getD .reset

/-- The state whose very next step runs the operation of a word, read in format `f` from `bytes`. -/
def placeWord (f : Format) (bytes : List Byte) (i : Instr) (s : State) : State :=
  match i with
  | .hostReset => placeCmd 0 s
  | .hostInitialize => placeCmd 1 s
  | .hostMeasure => placeCmd 2 s
  | .wrReset => ensureWrAnswer (placeSel .reset .wr s)
  | .wrInit => ensureWrAnswer (placeSel .init .wr s)
  | .wrTrigger => ensureWrAnswer (placeSel .measure .wr s)
  | .dlyPoweron => ensureDlyDone (placeSel .init .dly0 s)
  | .dlySettle => ensureDlyDone (placeSel (selOp (bytes.headD 0)) .dly1 s)
  | .rdStatus => ensureRdAnswer (placeSel .init .rd s)
  | .rdMeasure =>
    if f = .r6 then (placeSel .measure .rd s).setRdAnswers (frameAnswer bytes :: s.rdAnswers)
    else ensureRdAnswer (placeSel .measure .rd s)
  | .decodeStatus b => s.setDecIn (.status b :: s.decIn)
  | .decodeFrame b0 b1 b2 b3 b4 => s.setDecIn (.frame b0 b1 b2 b3 b4 :: s.decIn)

end Sys2Proof.Machine
end

