-- ==== Sys2Proof/Machine/Step.lean ====
section
/-!
DEFINITION. One step of the machine (spec/44_operations.md R150): fetch what there is to do, decode it, run it.
-/

namespace Sys2Proof.Machine

/-- One step (R150). Where the awaited event has not come the block holds its state (R237). -/
def step (s : State) : Host.Outcome State Fault Refusal :=
  match fetch s with
  | .wait => .next s
  | .deliver => .next (takeResponse s)
  | .word f bytes s' =>
    match decode f bytes with
    | .ok (i, _) => exec i s'
    | .error e => rejectWord e s'

/-- The state with a table word placed where `step` fetches next (log entries 5 and 18).
A word that the decoder refuses places nothing. -/
def State.withFetchWord (s : State) (nbits w : Nat) : State :=
  match findTableWord nbits w with
  | some (f, bytes, i) => placeWord f bytes i s
  | none => s

end Sys2Proof.Machine
end

