-- ==== Sys2Proof/Safety.lean ====
section
/-!
DEFINITION. The terms in which claims about the block are made: the invariants of spec/10_state.md R22 and R31 and
of spec/44_operations.md R161, the requests the block may make (spec/40_command_issuer.md R104), the order of an
operation's transactions (spec/20_memory.md R67), which registers matter when (R36), and the value of a binary32
pattern.
-/

namespace Sys2Proof.Safety

open Sys2Proof.Machine

/-! ### The state machine (R22, R24) -/

/-- R22, and R24's order of the phases: `P_DLY0` occurs in `INITIALIZE` only, and `RESET` has neither a settling
delay nor a read. -/
structure StateRule (s : State) : Prop where
  settled : s.phase = .idle ∨ s.phase = .rsp → s.st = .idle ∨ s.st = .ready
  initializing : s.st = .initializing ↔
    s.curOp = .init ∧ (s.phase = .dly0 ∨ s.phase = .wr ∨ s.phase = .dly1 ∨ s.phase = .rd)
  measuring : s.st = .measuring ↔
    s.curOp = .measure ∧ (s.phase = .wr ∨ s.phase = .dly1 ∨ s.phase = .rd)
  powerOnDelay : s.phase = .dly0 → s.curOp = .init
  resetHasNoRead : s.phase = .dly1 ∨ s.phase = .rd → s.curOp ≠ .reset

/-- The rows of R161: with which result an operation can end, and in which state it leaves `st`. -/
def legalEnd (op : HostOp) (r : ResultCode) (st : SeqState) : Prop :=
  match op, r with
  | _, .illegalOp => st = .idle ∨ st = .ready
  | .reset, .ok => st = .idle
  | .reset, .transportError => st = .idle
  | .init, .ok => st = .ready
  | .init, .transportError => st = .idle
  | .init, .shortRead => st = .idle
  | .measure, .ok => st = .ready
  | .measure, .transportError => st = .ready
  | .measure, .shortRead => st = .ready
  | .measure, .deviceBusy => st = .ready
  | .measure, .notCalibrated => st = .ready
  | .measure, .notReady => st = .idle
  | _, _ => False

/-- The column `status_valid` of R31. -/
def carriesStatus (op : HostOp) (r : ResultCode) : Bool :=
  match op, r with
  | .init, .ok => true
  | .measure, .ok => true
  | _, .deviceBusy => true
  | _, .notCalibrated => true
  | _, _ => false

/-- The column `meas_valid` of R31. -/
def carriesMeas (op : HostOp) (r : ResultCode) : Bool :=
  match op, r with
  | .measure, .ok => true
  | _, _ => false

/-- What the response registers hold while a response is offered (R31, R161, R188). -/
structure ResponseRule (s : State) : Prop where
  ends : s.phase = .rsp → legalEnd s.curOp s.resultReg s.st
  statusFlag : s.phase = .rsp → s.statusValid = carriesStatus s.curOp s.resultReg
  measFlag : s.phase = .rsp → s.measValid = carriesMeas s.curOp s.resultReg
  statusDecoded : s.phase = .rsp → s.statusValid = true →
    s.busy = statusBusy s.statusRaw ∧ s.mode = statusMode s.statusRaw ∧
      s.calibrated = statusCalibrated s.statusRaw
  measured : s.phase = .rsp → s.measValid = true → s.busy = false ∧ s.calibrated = true ∧
    s.humidityPct = humidityPctOf s.humRaw ∧ s.temperatureC = temperatureCOf s.tempRaw
  deviceBusy : s.phase = .rsp → s.resultReg = .deviceBusy → s.busy = true
  notCalibrated : s.phase = .rsp → s.resultReg = .notCalibrated → s.busy = false ∧ s.calibrated = false

/-! ### Transactions -/

/-- The requests the block may make (R50, R104, R24): the three frames, the two read lengths, the two delays. -/
def legalRequest : Event → Prop
  | .memWrite addr bytes => addr = 0x38 ∧
      (bytes = [0xBA] ∨ bytes = [0xE1, 0x08, 0x00] ∨ bytes = [0xAC, 0x33, 0x00])
  | .memRead addr n => addr = 0x38 ∧ (n = 1 ∨ n = 6)
  | .delay ms => ms = 40 ∨ ms = 75
  | .cmd _ => True
  | .wrAnswer _ => True
  | .rdAnswer _ => True
  | .dlyDone => True
  | .rsp _ => True
  | .statusDecoded _ _ => True
  | .frameDecoded _ _ _ _ _ _ => True

/-- Whether a transaction is the sequencer's, and not of a decoder used alone. -/
def isSequencer : Event → Bool
  | .statusDecoded _ _ => false
  | .frameDecoded _ _ _ _ _ _ => false
  | .cmd _ => true
  | .memWrite _ _ => true
  | .wrAnswer _ => true
  | .memRead _ _ => true
  | .rdAnswer _ => true
  | .delay _ => true
  | .dlyDone => true
  | .rsp _ => true

/-- What an operation has done once it has issued its write, the newest first (R152 to R154). -/
def upToWrite : HostOp → List Event
  | .reset => [.memWrite 0x38 [0xBA], .cmd 0]
  | .init => [.memWrite 0x38 [0xE1, 0x08, 0x00], .dlyDone, .delay 40, .cmd 1]
  | .measure => [.memWrite 0x38 [0xAC, 0x33, 0x00], .cmd 2]

/-- What an operation has done once it has issued its settling delay, the newest first. -/
def upToSettle (op : HostOp) : List Event :=
  .delay 75 :: .wrAnswer .ok :: upToWrite op

/-- How many bytes an operation asks for (R95); `RESET` reads nothing. -/
def bytesAsked : HostOp → Count
  | .init => 1
  | .measure => 6
  | .reset => 0

/-- What the operation in progress has done so far, from its acceptance to the request it waits on, the newest
first (R67, R116, R165). -/
def doneSoFar (op : HostOp) (p : Phase) : List Event :=
  match p with
  | .idle => []
  | .dly0 => [.delay 40, .cmd 1]
  | .wr => upToWrite op
  | .dly1 => upToSettle op
  | .rd => .memRead 0x38 (bytesAsked op) :: .dlyDone :: upToSettle op
  | .rsp => []

/-- The newest transactions of the sequencer are those of the operation in progress, in their order, with no
other between them (R67). -/
def OrderRule (s : State) : Prop :=
  doneSoFar s.curOp s.phase <+: s.trace.filter isSequencer

/-- An operation accepted in `s` is over in `t` (R167): its transactions are `events`, the oldest first, and
`st` is `st'`. -/
def operationEnds (s t : State) (st' : SeqState) (events : List Event) : Prop :=
  t.phase = .idle ∧ t.st = st' ∧ t.trace = events.reverse ++ s.trace

/-- The status part of a response for the status byte `b` (R31). -/
def statusPartOf (b : Byte) : StatusPart :=
  ⟨b, statusBusy b, statusCalibrated b, statusMode b⟩

/-! ### Which registers matter when (R20, R26, R27, R30, R33, R36) -/

/-- Two states that no host can tell apart: they agree on `st`, `phase` and the environment, on `cur_op` while an
operation is in progress, and on the response while one is offered. -/
structure SameToHost (s t : State) : Prop where
  st : s.st = t.st
  phase : s.phase = t.phase
  curOp : s.phase = .dly0 ∨ s.phase = .wr ∨ s.phase = .dly1 ∨ s.phase = .rd → s.curOp = t.curOp
  response : s.phase = .rsp → s.response = t.response
  cmds : s.cmds = t.cmds
  wrAnswers : s.wrAnswers = t.wrAnswers
  rdAnswers : s.rdAnswers = t.rdAnswers
  dlyDones : s.dlyDones = t.dlyDones
  rspTakes : s.rspTakes = t.rspTakes
  decIn : s.decIn = t.decIn
  trace : s.trace = t.trace

/-! ### Frames -/

/-- The receive buffer, the status byte and the status flags are the same. -/
def sameStatus (s t : State) : Prop :=
  t.rx = s.rx ∧ t.statusRaw = s.statusRaw ∧ t.busy = s.busy ∧ t.calibrated = s.calibrated ∧ t.mode = s.mode

/-- The measurement registers are the same. -/
def sameMeas (s t : State) : Prop :=
  t.humRaw = s.humRaw ∧ t.tempRaw = s.tempRaw ∧ t.humidityPct = s.humidityPct ∧ t.temperatureC = s.temperatureC

/-- The response registers are the same. -/
def sameResult (s t : State) : Prop :=
  t.resultReg = s.resultReg ∧ t.statusValid = s.statusValid ∧ t.measValid = s.measValid

/-! ### Binary32 (R137 to R141) -/

/-- The biased exponent of a pattern. -/
def floatExp (w : Bits32) : Nat := (w.extractLsb' 23 8).toNat

/-- The significand of a finite pattern, the hidden bit included. -/
def floatSig (w : Bits32) : Nat :=
  if floatExp w = 0 then (w.extractLsb' 0 23).toNat else 2 ^ 23 + (w.extractLsb' 0 23).toNat

/-- The value of a finite pattern. -/
def floatValue (w : Bits32) : ℚ :=
  (if w.msb then -1 else 1) * (floatSig w * 2 ^ (floatExp w - 1)) / 2 ^ 149

/-- The exact humidity of R135. -/
def exactHumidity (raw : Raw) : ℚ := raw.toNat * 100 / 2 ^ 20

/-- The exact temperature of R136. -/
def exactTemperature (raw : Raw) : ℚ := raw.toNat * 200 / 2 ^ 20 - 50

end Sys2Proof.Safety
end

