-- ==== Sys2Proof/Certificates/Slice0/Obligations.lean ====
section
/-!
DEFINITION. The statements for the provers. Each says what spec/ says of the block, over every state and every
answer of the environment; which rule a statement formalises stands in its docstring and in OBLIGATIONS.json.
-/

open Sys2Proof Sys2Proof.Machine Sys2Proof.Safety

/-! ## Encoding -/

/-- Decoding an operation's own word gives the operation back, with every operand, and leaves the bytes after it
(spec/30_encoding.md sections 1 and 3). -/
def Obligations.DecodeEncodeRoundTrip : Prop :=
  ∀ (i : Instr) (rest : List Byte), decode i.format (encode i ++ rest) = .ok (i, rest)

/-- The decoder reads nothing but the table's words: outside `SEL` and the two received frames the word is the
operation's own, a `SEL` byte is below 32 and matches its row, and a received frame has its length
(spec/30_encoding.md sections 3 to 5; the table's `match` and `mask`). That `DLY_SETTLE`'s row leaves `cur_op` free is
its mask, where its `selected_by` lists 1 and 2: log entry 8. -/
def Obligations.DecodeReadsOnlyTableWords : Prop :=
  ∀ (f : Format) (bytes rest : List Byte) (i : Instr), decode f bytes = .ok (i, rest) →
    ((f = .hc ∨ f = .w1 ∨ f = .w3 ∨ f = .s8 ∨ f = .d40) → i.format = f ∧ bytes = encode i ++ rest) ∧
    (f = .sel → ∃ b : Byte, bytes = b :: rest ∧ b.toNat < 32 ∧
      ((b = 0x02 ∧ i = .wrReset) ∨ (b = 0x0A ∧ i = .wrInit) ∨ (b = 0x12 ∧ i = .wrTrigger) ∨
        (b = 0x09 ∧ i = .dlyPoweron) ∨ (b.toNat % 8 = 3 ∧ i = .dlySettle) ∨
        (b = 0x0C ∧ i = .rdStatus) ∨ (b = 0x14 ∧ i = .rdMeasure))) ∧
    (f = .r1 → i = .rdStatus ∧ bytes.length = 1 + rest.length) ∧
    (f = .r6 → i = .rdMeasure ∧ bytes.length = 6 + rest.length)

/-- Words written out from the spec's encodings decode to what they stand for, and op code 3 to nothing
(R81 to R83, R91, R92; the table's rows). -/
def Obligations.WordsOfTheSpecDecode : Prop :=
  decode .hc [0x01] = .ok (.hostInitialize, []) ∧ decode .hc [0x02] = .ok (.hostMeasure, []) ∧
  decode .hc [0x03] = .error .reservedOp ∧
  decode .w1 [0b10111010] = .ok (.wrReset, []) ∧
  decode .w3 [0b11100001, 0b00001000, 0b00000000] = .ok (.wrInit, []) ∧
  decode .w3 [0b10101100, 0b00110011, 0b00000000] = .ok (.wrTrigger, []) ∧
  decode .sel [0b01001] = .ok (.dlyPoweron, []) ∧ decode .sel [0b10100] = .ok (.rdMeasure, []) ∧
  decode .d40 [0x19, 0x99, 0x9A, 0x66, 0x66] = .ok (.decodeFrame 0x19 0x99 0x9A 0x66 0x66, [])

/-! ## The status byte parser and the frame decoder -/

/-- R121, R122, R123: the three flags of a status byte, by its value and by its bits, and how many bytes give
each. -/
def Obligations.StatusFlagsOfAByte : Prop :=
  (∀ s : Byte,
    ((parseStatus s).busy = true ↔ 0x7F < s.toNat) ∧ (parseStatus s).busy = s.getLsbD 7 ∧
    (parseStatus s).mode = (if s &&& 0x60 = 0x00 then .normal else if s &&& 0x60 = 0x20 then .cyclic else .command) ∧
    ((parseStatus s).mode = .normal ↔ s.getLsbD 6 = false ∧ s.getLsbD 5 = false) ∧
    ((parseStatus s).mode = .cyclic ↔ s.getLsbD 6 = false ∧ s.getLsbD 5 = true) ∧
    ((parseStatus s).mode = .command ↔ s.getLsbD 6 = true) ∧
    ((parseStatus s).calibrated = true ↔ s &&& 0x08 = 0x08) ∧ (parseStatus s).calibrated = s.getLsbD 3) ∧
  (Mode.normal.code = 0 ∧ Mode.cyclic.code = 1 ∧ Mode.command.code = 2) ∧
  ((List.range 256).filter fun n => (parseStatus (BitVec.ofNat 8 n)).busy).length = 128 ∧
  ((List.range 256).filter fun n => (parseStatus (BitVec.ofNat 8 n)).mode = .normal).length = 64 ∧
  ((List.range 256).filter fun n => (parseStatus (BitVec.ofNat 8 n)).mode = .cyclic).length = 64 ∧
  ((List.range 256).filter fun n => (parseStatus (BitVec.ofNat 8 n)).mode = .command).length = 128 ∧
  ((List.range 256).filter fun n => (parseStatus (BitVec.ofNat 8 n)).calibrated).length = 128

/-- The spec's inference from its masks (R125): status bits 4, 2, 1 and 0 change no output. -/
def Obligations.StatusIgnoresOtherBits : Prop :=
  ∀ s : Byte, parseStatus s = parseStatus (s &&& 0xE8)

/-- R131, R132: the two raw fields of a data frame, by the formulas and bit by bit. -/
def Obligations.RawFieldsOfAFrame : Prop :=
  ∀ b0 b1 b2 b3 b4 : Byte, ∀ o : FrameOut, parseFrame b0 b1 b2 b3 b4 = o →
    o.humRaw = (b0.setWidth 20 <<< 12) ||| (b1.setWidth 20 <<< 4) ||| (b2 >>> 4).setWidth 20 ∧
    o.humRaw.extractLsb' 12 8 = b0 ∧ o.humRaw.extractLsb' 4 8 = b1 ∧
    o.humRaw.extractLsb' 0 4 = b2.extractLsb' 4 4 ∧
    o.humRaw.toNat = b0.toNat * 2 ^ 12 + b1.toNat * 2 ^ 4 + b2.toNat / 2 ^ 4 ∧
    o.tempRaw = ((b2 &&& 0x0F).setWidth 20 <<< 16) ||| (b3.setWidth 20 <<< 8) ||| b4.setWidth 20 ∧
    o.tempRaw.extractLsb' 16 4 = b2.extractLsb' 0 4 ∧ o.tempRaw.extractLsb' 8 8 = b3 ∧
    o.tempRaw.extractLsb' 0 8 = b4 ∧
    o.tempRaw.toNat = b2.toNat % 2 ^ 4 * 2 ^ 16 + b3.toNat * 2 ^ 8 + b4.toNat

/-- The spec's inference (R143): the extraction is a bijection, and `frameBytes` is its inverse. -/
def Obligations.FrameFieldsAreABijection : Prop :=
  (∀ h t : Raw, ∃ b0 b1 b2 b3 b4 : Byte, frameBytes h t = [b0, b1, b2, b3, b4] ∧
    humidityRaw b0 b1 b2 = h ∧ temperatureRaw b2 b3 b4 = t) ∧
  (∀ b0 b1 b2 b3 b4 : Byte, frameBytes (humidityRaw b0 b1 b2) (temperatureRaw b2 b3 b4) = [b0, b1, b2, b3, b4])

/-- The spec's table of extremes (R138), derived by it from R137: the binary32 patterns delivered. -/
def Obligations.FloatPatternsAtTheExtremes : Prop :=
  humidityPctOf 0x00000 = 0x00000000 ∧ humidityPctOf 0xFFFFF = 0x42C7FFF4 ∧
  temperatureCOf 0x00000 = 0xC2480000 ∧ temperatureCOf 0x40000 = 0x00000000 ∧
  temperatureCOf 0xFFFFF = 0x4315FFF4 ∧
  humidityPctOf 0xA3D71 = 0x42800004 ∧ temperatureCOf 0xA3D71 = 0x429C0008

/-- The ranges of R138 and the sign of R136, which rest on the spec's decision D15: no raw field leaves
`[0, 100)` percent or `[-50, 150)` degrees, and the temperature is negative exactly below 0x40000. -/
def Obligations.FloatsStayInRange : Prop :=
  ∀ raw : Raw,
    0 ≤ floatValue (humidityPctOf raw) ∧ floatValue (humidityPctOf raw) < 100 ∧
    -50 ≤ floatValue (temperatureCOf raw) ∧ floatValue (temperatureCOf raw) < 150 ∧
    (floatValue (temperatureCOf raw) < 0 ↔ raw.toNat < 0x40000)

/-- The spec's enumeration (R139): up to 0xA3D70 both outputs are the exact values of R135 and R136. -/
def Obligations.FloatsExactBelowRounding : Prop :=
  ∀ raw : Raw, raw.toNat ≤ 0xA3D70 →
    floatValue (humidityPctOf raw) = exactHumidity raw ∧
    floatValue (temperatureCOf raw) = exactTemperature raw

/-- The spec's enumeration (R139): the errors are at most `2^-18` percent and `2^-17` degrees, which is far inside
the tolerance `1e-3` of R137 and R141. -/
def Obligations.FloatErrorsAreSmall : Prop :=
  ∀ raw : Raw,
    |floatValue (humidityPctOf raw) - exactHumidity raw| ≤ 1 / 2 ^ 18 ∧
    |floatValue (temperatureCOf raw) - exactTemperature raw| ≤ 1 / 2 ^ 17

/-- The spec's enumeration (R139): both outputs are monotone in their raw field. -/
def Obligations.FloatsAreMonotone : Prop :=
  ∀ a b : Raw, a.toNat ≤ b.toNat →
    floatValue (humidityPctOf a) ≤ floatValue (humidityPctOf b) ∧
    floatValue (temperatureCOf a) ≤ floatValue (temperatureCOf b)

/-- The spec's inference (R140): no NaN, no infinity, no negative zero and no subnormal is delivered. -/
def Obligations.FloatsAreOrdinary : Prop :=
  ∀ raw : Raw,
    (humidityPctOf raw = 0 ∨ (1 ≤ floatExp (humidityPctOf raw) ∧ floatExp (humidityPctOf raw) ≤ 254)) ∧
    (temperatureCOf raw = 0 ∨ (1 ≤ floatExp (temperatureCOf raw) ∧ floatExp (temperatureCOf raw) ≤ 254))

/-! ## What each operation does -/

/-- `RESET` and `INITIALIZE` complete in `P_IDLE`, from `Idle` and from `Ready` alike (R151, its first two cases).
The whole next state is given, so every register not named keeps its value. -/
def Obligations.ResetAndInitializeAreAccepted : Prop :=
  ∀ s : State, s.phase = .idle →
    exec .hostReset s = .next { s with
      curOp := .reset, phase := .wr, trace := .memWrite 0x38 [0xBA] :: s.trace } ∧
    exec .hostInitialize s = .next { s with
      curOp := .init, st := .initializing, phase := .dly0, trace := .delay 40 :: s.trace }

/-- `MEASURE` completes in `P_IDLE` with `st = Ready` (R151, its third case): it writes the trigger frame. -/
def Obligations.MeasureIsAcceptedInReady : Prop :=
  ∀ s : State, s.phase = .idle → s.st = .ready →
    exec .hostMeasure s = .next { s with
      curOp := .measure, st := .measuring, phase := .wr, trace := .memWrite 0x38 [0xAC, 0x33, 0x00] :: s.trace }

/-- The spec's decision D8 (R163): `MEASURE` elsewhere than in `Ready` responds `NOT_READY`, with no bus access, no
delay, no payload and `st` unchanged. -/
def Obligations.MeasureIsRefusedUnlessReady : Prop :=
  ∀ s : State, s.phase = .idle → s.st ≠ .ready →
    exec .hostMeasure s = .next { s with
      curOp := .measure, resultReg := .notReady, statusValid := false, measValid := false, phase := .rsp }

/-- The spec's decision D2 (R32): outside `P_IDLE` a step neither takes nor drops a command. That the meaning of a host
operation, run there by itself, leaves the state as it is is read from R32 by inference: log entry 11. -/
def Obligations.CommandsWaitOutsideIdle : Prop :=
  ∀ s : State, s.phase ≠ .idle →
    exec .hostReset s = .next s ∧ exec .hostInitialize s = .next s ∧ exec .hostMeasure s = .next s ∧
    ∀ t : State, step s = .next t → t.cmds = s.cmds

/-- R156: what the answer to a write does, for each of the three writes. -/
def Obligations.WriteAnswersAreTaken : Prop :=
  ∀ (s : State) (rest : List WrAnswer), s.phase = .wr →
    (s.wrAnswers = .err :: rest →
      (s.curOp = .reset → exec .wrReset s = .next { s with
        wrAnswers := rest, trace := .wrAnswer .err :: s.trace, st := .idle, resultReg := .transportError,
        statusValid := false, measValid := false, phase := .rsp }) ∧
      (s.curOp = .init → exec .wrInit s = .next { s with
        wrAnswers := rest, trace := .wrAnswer .err :: s.trace, st := .idle, resultReg := .transportError,
        statusValid := false, measValid := false, phase := .rsp }) ∧
      (s.curOp = .measure → exec .wrTrigger s = .next { s with
        wrAnswers := rest, trace := .wrAnswer .err :: s.trace, st := .ready, resultReg := .transportError,
        statusValid := false, measValid := false, phase := .rsp })) ∧
    (s.wrAnswers = .ok :: rest →
      (s.curOp = .reset → exec .wrReset s = .next { s with
        wrAnswers := rest, trace := .wrAnswer .ok :: s.trace, st := .idle, resultReg := .ok,
        statusValid := false, measValid := false, phase := .rsp }) ∧
      (s.curOp = .init → exec .wrInit s = .next { s with
        wrAnswers := rest, trace := .delay 75 :: .wrAnswer .ok :: s.trace, phase := .dly1 }) ∧
      (s.curOp = .measure → exec .wrTrigger s = .next { s with
        wrAnswers := rest, trace := .delay 75 :: .wrAnswer .ok :: s.trace, phase := .dly1 }))

/-- R155: after the power-on delay the initialize frame is written. -/
def Obligations.PowerOnDelayLeadsToTheWrite : Prop :=
  ∀ (s : State) (n : Nat), s.phase = .dly0 → s.curOp = .init → s.dlyDones = n + 1 →
    exec .dlyPoweron s = .next { s with
      dlyDones := n, trace := .memWrite 0x38 [0xE1, 0x08, 0x00] :: .dlyDone :: s.trace, phase := .wr }

/-- R157: after the settling delay one byte is read for `INITIALIZE` and six for `MEASURE`, the two operations that
have one (R111). `P_DLY1` with `cur_op` `RESET` is log entry 8, in UnselectedMicroOperationsStop. -/
def Obligations.SettlingDelayLeadsToTheRead : Prop :=
  ∀ (s : State) (n : Nat), s.phase = .dly1 → s.dlyDones = n + 1 →
    (s.curOp = .init → exec .dlySettle s = .next { s with
      dlyDones := n, trace := .memRead 0x38 1 :: .dlyDone :: s.trace, phase := .rd }) ∧
    (s.curOp = .measure → exec .dlySettle s = .next { s with
      dlyDones := n, trace := .memRead 0x38 6 :: .dlyDone :: s.trace, phase := .rd })

/-- R115: a failed read ends the operation with `TRANSPORT_ERROR`; nothing is written or decoded, and the block
does not read again. -/
def Obligations.FailedReadEndsTheOperation : Prop :=
  ∀ (s : State) (rest : List RdAnswer), s.phase = .rd → s.rdAnswers = .err :: rest →
    (s.curOp = .init → exec .rdStatus s = .next { s with
      rdAnswers := rest, trace := .rdAnswer .err :: s.trace, st := .idle, resultReg := .transportError,
      statusValid := false, measValid := false, phase := .rsp }) ∧
    (s.curOp = .measure → exec .rdMeasure s = .next { s with
      rdAnswers := rest, trace := .rdAnswer .err :: s.trace, st := .ready, resultReg := .transportError,
      statusValid := false, measValid := false, phase := .rsp })

/-- R114: a read of fewer bytes than required ends the operation with `SHORT_READ` (code 2, where a transport error
is code 1), with no register of the read written and neither payload part. -/
def Obligations.ShortReadEndsTheOperation : Prop :=
  ResultCode.shortRead.code = 2 ∧ ResultCode.transportError.code = 1 ∧
  ∀ (s : State) (bytes : { l : List Byte // l.length ≤ 7 }) (rest : List RdAnswer),
    s.phase = .rd → s.rdAnswers = .ok bytes :: rest →
    (s.curOp = .init → bytes.val.length < 1 → exec .rdStatus s = .next { s with
      rdAnswers := rest, trace := .rdAnswer (.ok bytes) :: s.trace, st := .idle, resultReg := .shortRead,
      statusValid := false, measValid := false, phase := .rsp }) ∧
    (s.curOp = .measure → bytes.val.length < 6 → exec .rdMeasure s = .next { s with
      rdAnswers := rest, trace := .rdAnswer (.ok bytes) :: s.trace, st := .ready, resultReg := .shortRead,
      statusValid := false, measValid := false, phase := .rsp })

/-- R158 for `INITIALIZE`, with the spec's decisions D11 and D21: one byte or more completes the read, and the
operation ends with `OK` whatever the status says; `rx[1..5]` keep their bytes (R117). -/
def Obligations.StatusReadCompletes : Prop :=
  ∀ (s : State) (bytes : { l : List Byte // l.length ≤ 7 }) (b : Byte) (more : List Byte) (rest : List RdAnswer),
    s.phase = .rd → s.curOp = .init → s.rdAnswers = .ok bytes :: rest → bytes.val = b :: more →
    exec .rdStatus s = .next { s with
      rdAnswers := rest, trace := .rdAnswer (.ok bytes) :: s.trace,
      rx := { s.rx with r0 := b },
      statusRaw := b, busy := statusBusy b, mode := statusMode b, calibrated := statusCalibrated b,
      st := .ready, resultReg := .ok, statusValid := true, measValid := false, phase := .rsp }

/-- R158 for `MEASURE`, with the spec's decisions D13 and D21: six bytes or more complete the read; busy is
`DEVICE_BUSY`, else not calibrated is `NOT_CALIBRATED`, else the frame is decoded and the operation ends with
`OK`. -/
def Obligations.MeasureReadCompletes : Prop :=
  ∀ (s : State) (bytes : { l : List Byte // l.length ≤ 7 }) (b d0 d1 d2 d3 d4 : Byte) (more : List Byte)
    (rest : List RdAnswer),
    s.phase = .rd → s.curOp = .measure → s.rdAnswers = .ok bytes :: rest →
    bytes.val = b :: d0 :: d1 :: d2 :: d3 :: d4 :: more →
    (b.getLsbD 7 = true → exec .rdMeasure s = .next { s with
      rdAnswers := rest, trace := .rdAnswer (.ok bytes) :: s.trace, rx := ⟨b, d0, d1, d2, d3, d4⟩,
      statusRaw := b, busy := true, mode := statusMode b, calibrated := statusCalibrated b,
      st := .ready, resultReg := .deviceBusy, statusValid := true, measValid := false, phase := .rsp }) ∧
    (b.getLsbD 7 = false → b.getLsbD 3 = false → exec .rdMeasure s = .next { s with
      rdAnswers := rest, trace := .rdAnswer (.ok bytes) :: s.trace, rx := ⟨b, d0, d1, d2, d3, d4⟩,
      statusRaw := b, busy := false, mode := statusMode b, calibrated := false,
      st := .ready, resultReg := .notCalibrated, statusValid := true, measValid := false, phase := .rsp }) ∧
    (b.getLsbD 7 = false → b.getLsbD 3 = true → exec .rdMeasure s = .next { s with
      rdAnswers := rest, trace := .rdAnswer (.ok bytes) :: s.trace, rx := ⟨b, d0, d1, d2, d3, d4⟩,
      statusRaw := b, busy := false, mode := statusMode b, calibrated := true,
      humRaw := humidityRaw d0 d1 d2, tempRaw := temperatureRaw d2 d3 d4,
      humidityPct := humidityPctOf (humidityRaw d0 d1 d2),
      temperatureC := temperatureCOf (temperatureRaw d2 d3 d4),
      st := .ready, resultReg := .ok, statusValid := true, measValid := true, phase := .rsp })

/-- Used alone, the two decode functions complete in every state and write no register (the spec's decision D23;
R120, R130, R142). That the outputs stand in the trace is the model's choice, log entry 10. -/
def Obligations.DecodersAloneWriteNoRegister : Prop :=
  ∀ s : State,
    (∀ b : Byte, exec (.decodeStatus b) s = .next { s with
      trace := .statusDecoded b ⟨statusBusy b, statusMode b, statusCalibrated b⟩ :: s.trace }) ∧
    (∀ b0 b1 b2 b3 b4 : Byte, exec (.decodeFrame b0 b1 b2 b3 b4) s = .next { s with
      trace := .frameDecoded b0 b1 b2 b3 b4 ⟨humidityRaw b0 b1 b2, temperatureRaw b2 b3 b4,
        humidityPctOf (humidityRaw b0 b1 b2), temperatureCOf (temperatureRaw b2 b3 b4)⟩ :: s.trace })

/-- The model's choice, log entry 9: a micro-operation has no effect, and stops the machine by name, in a state whose
`cur_op` and `phase` do not select it. The selections are those of spec/30_encoding.md section 3, but for `DLY_SETTLE`:
its selection here is the `sel_match` and `sel_mask` of its row, which is `P_DLY1` whatever `cur_op` is. In `P_DLY1` with
`cur_op` `RESET`, which section 3 does not list, it runs, and reads six bytes by the `else` of R157: log entry 8
(DEDUCED). -/
def Obligations.UnselectedMicroOperationsStop : Prop :=
  ∀ s : State,
    (¬(s.curOp = .reset ∧ s.phase = .wr) → exec .wrReset s = .fault .notSelected) ∧
    (¬(s.curOp = .init ∧ s.phase = .wr) → exec .wrInit s = .fault .notSelected) ∧
    (¬(s.curOp = .measure ∧ s.phase = .wr) → exec .wrTrigger s = .fault .notSelected) ∧
    (¬(s.curOp = .init ∧ s.phase = .dly0) → exec .dlyPoweron s = .fault .notSelected) ∧
    (s.phase ≠ .dly1 → exec .dlySettle s = .fault .notSelected) ∧
    (s.phase = .dly1 → s.curOp = .reset →
      (s.dlyDones = 0 → exec .dlySettle s = .next s) ∧
      (∀ n : Nat, s.dlyDones = n + 1 → exec .dlySettle s = .next { s with
        dlyDones := n, trace := .memRead 0x38 6 :: .dlyDone :: s.trace, phase := .rd })) ∧
    (¬(s.curOp = .init ∧ s.phase = .rd) → exec .rdStatus s = .fault .notSelected) ∧
    (¬(s.curOp = .measure ∧ s.phase = .rd) → exec .rdMeasure s = .fault .notSelected)

/-! ## Failures -/

/-- R190: the whole effect of a failure, for each of the six. -/
def Obligations.RaiseHasItsWholeEffect : Prop :=
  ∀ s : State,
    raise .notReady s = { s with
      resultReg := .notReady, statusValid := false, measValid := false, phase := .rsp } ∧
    raise .illegalOp s = { s with
      resultReg := .illegalOp, statusValid := false, measValid := false, phase := .rsp } ∧
    raise .transportError s = { s with
      st := (if s.curOp = .measure then .ready else .idle), resultReg := .transportError,
      statusValid := false, measValid := false, phase := .rsp } ∧
    raise .shortRead s = { s with
      st := (if s.curOp = .measure then .ready else .idle), resultReg := .shortRead,
      statusValid := false, measValid := false, phase := .rsp } ∧
    raise .deviceBusy s = { s with
      st := (if s.curOp = .measure then .ready else .idle), resultReg := .deviceBusy,
      statusValid := true, measValid := false, phase := .rsp } ∧
    raise .notCalibrated s = { s with
      st := (if s.curOp = .measure then .ready else .idle), resultReg := .notCalibrated,
      statusValid := true, measValid := false, phase := .rsp }

/-- The spec's decision D9 (R92, R164): op code 3 is accepted and answered `ILLEGAL_OP`, with no bus access and no
delay, and `st` and `cur_op` unchanged. -/
def Obligations.ReservedOpCodeIsAnsweredIllegalOp : Prop :=
  ∀ (s : State) (rest : List HostWord), s.decIn = [] → s.phase = .idle → s.cmds = 3 :: rest →
    step s = .next { s with
      cmds := rest, trace := .cmd 3 :: s.trace, resultReg := .illegalOp, statusValid := false,
      measValid := false, phase := .rsp }

/-- The spec's decisions D3 and D14 (R31, R159): the host takes the response that the registers hold, a part whose
valid flag is 0 is absent, and nothing of the block changes but `phase`. -/
def Obligations.ResponseIsTaken : Prop :=
  ∀ (s : State) (n : Nat), s.decIn = [] → s.phase = .rsp → s.rspTakes = n + 1 →
    step s = .next { s with
      rspTakes := n, phase := .idle,
      trace := .rsp ⟨s.resultReg,
        if s.statusValid then some ⟨s.statusRaw, s.busy, s.calibrated, s.mode⟩ else none,
        if s.measValid then some ⟨s.humRaw, s.tempRaw, s.humidityPct, s.temperatureC⟩ else none⟩ :: s.trace }

/-! ## The step -/

/-- A step runs the decoded instruction (R150, R91). In `P_IDLE` the word is the host's first command, which is
taken from the host; in the four phases of a micro-operation it is `SEL = cur_op ++ phase`; an input at a decoder
used alone is served first and taken (the model's choice, log entry 10). `P_DLY1` selects `DLY_SETTLE` for every `cur_op`
(log entry 8). -/
def Obligations.StepRunsTheDecodedInstruction : Prop :=
  ∀ (s : State) (i : Instr) (r : List Byte),
    (∀ (op : HostWord) (rest : List HostWord), s.decIn = [] → s.phase = .idle → s.cmds = op :: rest →
      decode .hc [op.setWidth 8] = .ok (i, r) →
      step s = exec i { s with cmds := rest, trace := .cmd op :: s.trace }) ∧
    (s.decIn = [] → (s.phase = .dly0 ∨ s.phase = .wr ∨ s.phase = .dly1 ∨ s.phase = .rd) →
      decode .sel [(s.curOp.code ++ s.phase.code).setWidth 8] = .ok (i, r) → step s = exec i s) ∧
    (∀ (b : Byte) (rest : List DecInput), s.decIn = .status b :: rest → decode .s8 [b] = .ok (i, r) →
      step s = exec i { s with decIn := rest }) ∧
    (∀ (b0 b1 b2 b3 b4 : Byte) (rest : List DecInput), s.decIn = .frame b0 b1 b2 b3 b4 :: rest →
      decode .d40 [b0, b1, b2, b3, b4] = .ok (i, r) → step s = exec i { s with decIn := rest })

/-- The spec's decision D19 (R237): there is no timeout; in every phase the block holds its whole state until the
one event of that phase has come. -/
def Obligations.BlockWaitsForItsEvent : Prop :=
  ∀ s : State, StateRule s → s.decIn = [] →
    (s.phase = .idle → s.cmds = [] → step s = .next s) ∧
    (s.phase = .dly0 → s.dlyDones = 0 → step s = .next s) ∧
    (s.phase = .wr → s.wrAnswers = [] → step s = .next s) ∧
    (s.phase = .dly1 → s.dlyDones = 0 → step s = .next s) ∧
    (s.phase = .rd → s.rdAnswers = [] → step s = .next s) ∧
    (s.phase = .rsp → s.rspTakes = 0 → step s = .next s)

/-- What reset leaves (R36, R220; the spec's decision D18): `st = Idle`, `phase = P_IDLE` and no transaction made.
Nothing is said of the registers that the spec leaves without a value. -/
def Obligations.ResetLeavesIdle : Prop :=
  State.reset.st = .idle ∧ State.reset.phase = .idle ∧ State.reset.trace = []

/-- The invariants hold after reset (R22, R31, R67, R104, R220). -/
def Obligations.ResetMeetsTheInvariants : Prop :=
  StateRule State.reset ∧ ResponseRule State.reset ∧ OrderRule State.reset ∧
    ∀ e ∈ State.reset.trace, legalRequest e

/-- The spec's inference (R22): every step keeps the rule that ties `st` to `cur_op` and `phase`. That `P_DLY0` occurs
in `INITIALIZE` only (R155) and that `RESET` has no settling delay and no read (R152) is part of the rule. -/
def Obligations.StepKeepsTheStateRule : Prop :=
  ∀ s t : State, StateRule s → step s = .next t → StateRule t

/-- The spec's inference and its decisions D3, D14 (R31, R161, R188): every step keeps the rule of what the response
registers hold while a response is offered: a result the operation can end with, the `st` that goes with it, the
valid flags of R31, and a status and a measurement that are decoded. -/
def Obligations.StepKeepsTheResponseRule : Prop :=
  ∀ s t : State, StateRule s → ResponseRule s → step s = .next t → ResponseRule t

/-- The spec's inference (R104, with R50 and R24): every step keeps it that the block has requested nothing but the
three frames to 0x38, reads of 1 and 6 bytes from 0x38, and delays of 40 and 75 ms. -/
def Obligations.StepKeepsRequestsLegal : Prop :=
  ∀ s t : State, (∀ e ∈ s.trace, legalRequest e) → step s = .next t → ∀ e ∈ t.trace, legalRequest e

/-- The ordering rules (R60, R67, R68, R116, R230): every step keeps it that the sequencer's newest transactions are
those of the operation in progress, in order and with nothing between them; so a read is always preceded by the
answered 75 ms delay, that by the write's `WrOk`, and that by the frame of the same operation. -/
def Obligations.StepKeepsTheOrder : Prop :=
  ∀ s t : State, StateRule s → OrderRule s → step s = .next t → OrderRule t

/-- R150: the step function is total where the state rule holds: no step faults or is refused. -/
def Obligations.StepNeverStops : Prop :=
  ∀ s : State, StateRule s → ∃ t : State, step s = .next t

/-- R36 (with R20, R26, R27, R30, R33): a register that R36 leaves without a value is never read before it is
written. Two states that agree on `st`, `phase` and the environment, on `cur_op` inside an operation and on the
response while it is offered, step alike and stay so, in every transaction they make. -/
def Obligations.NoStaleRegisterIsRead : Prop :=
  ∀ s s' t : State, SameToHost s t → step s = .next s' → ∃ t' : State, step t = .next t' ∧ SameToHost s' t'

/-- R161: the only way into `Ready` is a successful `INITIALIZE`: a step that enters `Ready` is the read of an
`INITIALIZE` that got its byte, or the end of a `MEASURE`; and a step that enters `Measuring`, where alone a `MEASURE`
is in progress, is the acceptance of a `MEASURE` in `Ready` (R151). -/
def Obligations.ReadyOnlyByInitialize : Prop :=
  ∀ s t : State, StateRule s → step s = .next t →
    (s.st ≠ .ready → t.st = .ready →
      (s.curOp = .init ∧ s.phase = .rd ∧ t.phase = .rsp ∧ t.resultReg = .ok) ∨
      (s.curOp = .measure ∧ s.st = .measuring ∧ t.phase = .rsp)) ∧
    (s.st ≠ .measuring → t.st = .measuring →
      s.st = .ready ∧ s.phase = .idle ∧ (∃ rest, s.cmds = 2 :: rest) ∧ t.curOp = .measure ∧ t.phase = .wr)

/-! ## Whole operations -/

/-- `RESET` from acceptance to its end (R152 and the first rows of R165, with the spec's decision D10): one write,
`Idle` after both answers, no flag and no buffer byte written. -/
def Obligations.ResetRunsItsCourse : Prop :=
  ∀ (s : State) (cs : List HostWord) (a : WrAnswer) (as : List WrAnswer) (n : Nat),
    s.decIn = [] → s.phase = .idle → s.cmds = 0 :: cs → s.wrAnswers = a :: as → s.rspTakes = n + 1 →
    ∃ t : State, Host.Core.run core 3 s = .next t ∧
      operationEnds s t .idle [.cmd 0, .memWrite 0x38 [0xBA], .wrAnswer a,
        .rsp ⟨if a = .ok then .ok else .transportError, none, none⟩] ∧
      t.cmds = cs ∧ t.wrAnswers = as ∧ t.rdAnswers = s.rdAnswers ∧ t.dlyDones = s.dlyDones ∧
      sameStatus s t ∧ sameMeas s t

/-- R153: `INITIALIZE` from acceptance to its end, in each of its four outcomes. -/
def Obligations.InitializeRunsItsCourse : Prop :=
  ∀ (s : State) (cs : List HostWord) (d n : Nat),
    s.decIn = [] → s.phase = .idle → s.cmds = 1 :: cs →
    s.dlyDones = d + 2 → s.rspTakes = n + 1 →
    (∀ as, s.wrAnswers = .err :: as → ∃ t : State, Host.Core.run core 4 s = .next t ∧
      operationEnds s t .idle [.cmd 1, .delay 40, .dlyDone, .memWrite 0x38 [0xE1, 0x08, 0x00], .wrAnswer .err,
        .rsp ⟨.transportError, none, none⟩] ∧ sameStatus s t ∧ sameMeas s t) ∧
    (∀ as r rs, s.wrAnswers = .ok :: as → s.rdAnswers = r :: rs →
      ∃ t : State, Host.Core.run core 6 s = .next t ∧
        ∃ result : Response, ∃ after : SeqState,
          operationEnds s t after [.cmd 1, .delay 40, .dlyDone, .memWrite 0x38 [0xE1, 0x08, 0x00], .wrAnswer .ok,
            .delay 75, .dlyDone, .memRead 0x38 1, .rdAnswer r, .rsp result] ∧ sameMeas s t ∧
          (r = .err → result = ⟨.transportError, none, none⟩ ∧ after = .idle ∧ sameStatus s t) ∧
          (∀ bytes, r = .ok bytes → bytes.val = [] →
            result = ⟨.shortRead, none, none⟩ ∧ after = .idle ∧ sameStatus s t) ∧
          (∀ bytes b more, r = .ok bytes → bytes.val = b :: more →
            result = ⟨.ok, some (statusPartOf b), none⟩ ∧ after = .ready ∧ t.rx.r0 = b ∧ t.statusRaw = b ∧
              t.busy = statusBusy b ∧ t.mode = statusMode b ∧ t.calibrated = statusCalibrated b))

/-- R154: `MEASURE` from acceptance to its end, in each of its seven outcomes. -/
def Obligations.MeasureRunsItsCourse : Prop :=
  ∀ (s : State) (cs : List HostWord) (n : Nat),
    s.decIn = [] → s.phase = .idle → s.cmds = 2 :: cs → s.rspTakes = n + 1 →
    (s.st ≠ .ready → ∃ t : State, Host.Core.run core 2 s = .next t ∧
      operationEnds s t s.st [.cmd 2, .rsp ⟨.notReady, none, none⟩] ∧ sameStatus s t ∧ sameMeas s t) ∧
    (∀ as, s.st = .ready → s.wrAnswers = .err :: as → ∃ t : State, Host.Core.run core 3 s = .next t ∧
      operationEnds s t .ready [.cmd 2, .memWrite 0x38 [0xAC, 0x33, 0x00], .wrAnswer .err,
        .rsp ⟨.transportError, none, none⟩] ∧ sameStatus s t ∧ sameMeas s t) ∧
    (∀ as r rs d, s.st = .ready → s.wrAnswers = .ok :: as → s.rdAnswers = r :: rs → s.dlyDones = d + 1 →
      ∃ t : State, Host.Core.run core 5 s = .next t ∧
        ∃ result : Response,
          operationEnds s t .ready [.cmd 2, .memWrite 0x38 [0xAC, 0x33, 0x00], .wrAnswer .ok, .delay 75, .dlyDone,
            .memRead 0x38 6, .rdAnswer r, .rsp result] ∧
          (r = .err → result = ⟨.transportError, none, none⟩ ∧ sameStatus s t ∧ sameMeas s t) ∧
          (∀ bytes, r = .ok bytes → bytes.val.length < 6 →
            result = ⟨.shortRead, none, none⟩ ∧ sameStatus s t ∧ sameMeas s t) ∧
          (∀ bytes b d0 d1 d2 d3 d4 more, r = .ok bytes →
            bytes.val = b :: d0 :: d1 :: d2 :: d3 :: d4 :: more →
            t.rx = ⟨b, d0, d1, d2, d3, d4⟩ ∧ t.statusRaw = b ∧ t.busy = statusBusy b ∧ t.mode = statusMode b ∧
            t.calibrated = statusCalibrated b ∧
            (b.getLsbD 7 = true → result = ⟨.deviceBusy, some (statusPartOf b), none⟩ ∧ sameMeas s t) ∧
            (b.getLsbD 7 = false → b.getLsbD 3 = false →
              result = ⟨.notCalibrated, some (statusPartOf b), none⟩ ∧ sameMeas s t) ∧
            (b.getLsbD 7 = false → b.getLsbD 3 = true →
              result = ⟨.ok, some (statusPartOf b), some (parseFrame d0 d1 d2 d3 d4)⟩ ∧
              t.measPart = parseFrame d0 d1 d2 d3 d4)))

/-- R162: from any `st` in `P_IDLE`, and whatever failed before, `INITIALIZE` with the answers `WrOk` and
`RdOk(1, [b])` reaches `Ready`. -/
def Obligations.InitializeAlwaysReachesReady : Prop :=
  ∀ (s : State) (b : Byte) (cs : List HostWord) (as : List WrAnswer) (rs : List RdAnswer) (d n : Nat),
    s.decIn = [] → s.phase = .idle → s.cmds = 1 :: cs → s.wrAnswers = .ok :: as →
    s.rdAnswers = .ok ⟨[b], by simp⟩ :: rs → s.dlyDones = d + 2 → s.rspTakes = n + 1 →
    ∃ t : State, Host.Core.run core 6 s = .next t ∧ t.phase = .idle ∧ t.st = .ready

/-- R166: after a `MEASURE` that ended `NOT_CALIBRATED`, `st` is `Ready` as before it, and a second `MEASURE`
straight after is accepted. -/
def Obligations.MeasureAfterNotCalibratedIsAccepted : Prop :=
  ∀ (s : State) (b d0 d1 d2 d3 d4 : Byte) (cs : List HostWord) (as : List WrAnswer) (rs : List RdAnswer)
    (d n : Nat),
    s.decIn = [] → s.phase = .idle → s.st = .ready → s.cmds = 2 :: 2 :: cs → s.wrAnswers = .ok :: as →
    s.rdAnswers = .ok ⟨[b, d0, d1, d2, d3, d4], by simp⟩ :: rs → s.dlyDones = d + 1 → s.rspTakes = n + 1 →
    b.getLsbD 7 = false → b.getLsbD 3 = false →
    ∃ t : State, Host.Core.run core 5 s = .next t ∧ t.resultReg = .notCalibrated ∧ t.phase = .idle ∧
      t.st = .ready ∧
      ∃ u : State, step t = .next u ∧ u.st = .measuring ∧ u.phase = .wr ∧
        u.trace = .memWrite 0x38 [0xAC, 0x33, 0x00] :: .cmd 2 :: t.trace

/-- The spec's inference (R165, with the fairness of R240): wherever an operation stands, once its answers are there
it is over within five further steps, one per request. -/
def Obligations.OperationsEndWithinFiveRequests : Prop :=
  ∀ s : State, StateRule s → s.decIn = [] → 2 ≤ s.dlyDones → s.wrAnswers ≠ [] → s.rdAnswers ≠ [] →
    1 ≤ s.rspTakes →
    ∃ k ≤ 5, ∃ t : State, Host.Core.run core k s = .next t ∧ t.phase = .idle ∧ (t.st = .idle ∨ t.st = .ready)

/-! ## Frames -/

/-- R26 and R27: no operation but the two reads writes the receive buffer, the status byte or a status flag, and a
read writes none of them unless its frame arrived complete (R189). -/
def Obligations.OnlyCompleteReadsWriteStatus : Prop :=
  ∀ (i : Instr) (s t : State), exec i s = .next t →
    (i ≠ .rdStatus → i ≠ .rdMeasure → sameStatus s t) ∧
    (i = .rdStatus → (∀ bytes rest, s.rdAnswers = .ok bytes :: rest → bytes.val.length < 1) → sameStatus s t) ∧
    (i = .rdStatus → t.rx.r1 = s.rx.r1 ∧ t.rx.r2 = s.rx.r2 ∧ t.rx.r3 = s.rx.r3 ∧ t.rx.r4 = s.rx.r4 ∧
      t.rx.r5 = s.rx.r5) ∧
    (i = .rdMeasure → (∀ bytes rest, s.rdAnswers = .ok bytes :: rest → bytes.val.length < 6) → sameStatus s t)

/-- R30 and R189: the measurement registers are written by the read of a `MEASURE` that ends with `OK`, and by
nothing else. -/
def Obligations.OnlySuccessWritesMeasurement : Prop :=
  ∀ (i : Instr) (s t : State), exec i s = .next t →
    sameMeas s t ∨ (i = .rdMeasure ∧ t.resultReg = .ok ∧ t.measValid = true ∧ t.phase = .rsp)

/-- R23: `cur_op` is written by the acceptance of a command and by nothing else. -/
def Obligations.OnlyAcceptanceWritesCurOp : Prop :=
  ∀ (i : Instr) (s t : State), exec i s = .next t →
    (i ≠ .hostReset → i ≠ .hostInitialize → i ≠ .hostMeasure → t.curOp = s.curOp) ∧
    (s.phase ≠ .idle → t.curOp = s.curOp)

/-- R105: a write changes `st` only where it ends its operation; the delays and the decoders never do, and
accepting `RESET` does not. -/
def Obligations.StKeptInsideAnOperation : Prop :=
  ∀ (i : Instr) (s t : State), exec i s = .next t →
    (i = .wrReset ∨ i = .wrInit ∨ i = .wrTrigger → t.phase ≠ .rsp → t.st = s.st) ∧
    (i = .dlyPoweron ∨ i = .dlySettle ∨ i = .hostReset → t.st = s.st) ∧
    (∀ b, i = .decodeStatus b → t.st = s.st) ∧
    (∀ b0 b1 b2 b3 b4, i = .decodeFrame b0 b1 b2 b3 b4 → t.st = s.st)

/-- R29 and R160: the response registers are written only by a step that ends an operation. -/
def Obligations.ResponseRegistersKeptUntilTheEnd : Prop :=
  ∀ (i : Instr) (s t : State), exec i s = .next t → t.phase ≠ .rsp → sameResult s t

/-- R60 and R150: an operation takes at most the one answer its phase waits for, makes at most one request, and
leaves the host's commands and the decoders' inputs alone. -/
def Obligations.OneTransactionAtATime : Prop :=
  ∀ (i : Instr) (s t : State), exec i s = .next t →
    t.cmds = s.cmds ∧ t.rspTakes = s.rspTakes ∧ t.decIn = s.decIn ∧
    (t.wrAnswers = s.wrAnswers ∨ (s.phase = .wr ∧ ∃ a, s.wrAnswers = a :: t.wrAnswers)) ∧
    (t.rdAnswers = s.rdAnswers ∨ (s.phase = .rd ∧ ∃ a, s.rdAnswers = a :: t.rdAnswers)) ∧
    (t.dlyDones = s.dlyDones ∨ ((s.phase = .dly0 ∨ s.phase = .dly1) ∧ s.dlyDones = t.dlyDones + 1)) ∧
    ∃ new : List Event, t.trace = new ++ s.trace ∧
      (new.filter fun e => match e with
        | .memWrite _ _ => true
        | .memRead _ _ => true
        | .delay _ => true
        | _ => false).length ≤ 1
end

