-- ==== Sys2Proof/Laws/State.lean ====
section
/-!
SUPPORT. What each update of the state leaves in each field: one lemma per field per update.
-/

namespace Sys2Proof.Machine

variable (s : State)

/-! ### setSt -/

@[simp] theorem State.setSt_st (v : SeqState) : (s.setSt v).st = v := rfl
@[simp] theorem State.setSt_phase (v : SeqState) : (s.setSt v).phase = s.phase := rfl
@[simp] theorem State.setSt_curOp (v : SeqState) : (s.setSt v).curOp = s.curOp := rfl
@[simp] theorem State.setSt_rx (v : SeqState) : (s.setSt v).rx = s.rx := rfl
@[simp] theorem State.setSt_resultReg (v : SeqState) : (s.setSt v).resultReg = s.resultReg := rfl
@[simp] theorem State.setSt_statusValid (v : SeqState) : (s.setSt v).statusValid = s.statusValid := rfl
@[simp] theorem State.setSt_measValid (v : SeqState) : (s.setSt v).measValid = s.measValid := rfl
@[simp] theorem State.setSt_statusRaw (v : SeqState) : (s.setSt v).statusRaw = s.statusRaw := rfl
@[simp] theorem State.setSt_busy (v : SeqState) : (s.setSt v).busy = s.busy := rfl
@[simp] theorem State.setSt_calibrated (v : SeqState) : (s.setSt v).calibrated = s.calibrated := rfl
@[simp] theorem State.setSt_mode (v : SeqState) : (s.setSt v).mode = s.mode := rfl
@[simp] theorem State.setSt_humRaw (v : SeqState) : (s.setSt v).humRaw = s.humRaw := rfl
@[simp] theorem State.setSt_tempRaw (v : SeqState) : (s.setSt v).tempRaw = s.tempRaw := rfl
@[simp] theorem State.setSt_humidityPct (v : SeqState) : (s.setSt v).humidityPct = s.humidityPct := rfl
@[simp] theorem State.setSt_temperatureC (v : SeqState) : (s.setSt v).temperatureC = s.temperatureC := rfl
@[simp] theorem State.setSt_cmds (v : SeqState) : (s.setSt v).cmds = s.cmds := rfl
@[simp] theorem State.setSt_wrAnswers (v : SeqState) : (s.setSt v).wrAnswers = s.wrAnswers := rfl
@[simp] theorem State.setSt_rdAnswers (v : SeqState) : (s.setSt v).rdAnswers = s.rdAnswers := rfl
@[simp] theorem State.setSt_dlyDones (v : SeqState) : (s.setSt v).dlyDones = s.dlyDones := rfl
@[simp] theorem State.setSt_rspTakes (v : SeqState) : (s.setSt v).rspTakes = s.rspTakes := rfl
@[simp] theorem State.setSt_decIn (v : SeqState) : (s.setSt v).decIn = s.decIn := rfl
@[simp] theorem State.setSt_trace (v : SeqState) : (s.setSt v).trace = s.trace := rfl

/-! ### setPhase -/

@[simp] theorem State.setPhase_st (v : Phase) : (s.setPhase v).st = s.st := rfl
@[simp] theorem State.setPhase_phase (v : Phase) : (s.setPhase v).phase = v := rfl
@[simp] theorem State.setPhase_curOp (v : Phase) : (s.setPhase v).curOp = s.curOp := rfl
@[simp] theorem State.setPhase_rx (v : Phase) : (s.setPhase v).rx = s.rx := rfl
@[simp] theorem State.setPhase_resultReg (v : Phase) : (s.setPhase v).resultReg = s.resultReg := rfl
@[simp] theorem State.setPhase_statusValid (v : Phase) : (s.setPhase v).statusValid = s.statusValid := rfl
@[simp] theorem State.setPhase_measValid (v : Phase) : (s.setPhase v).measValid = s.measValid := rfl
@[simp] theorem State.setPhase_statusRaw (v : Phase) : (s.setPhase v).statusRaw = s.statusRaw := rfl
@[simp] theorem State.setPhase_busy (v : Phase) : (s.setPhase v).busy = s.busy := rfl
@[simp] theorem State.setPhase_calibrated (v : Phase) : (s.setPhase v).calibrated = s.calibrated := rfl
@[simp] theorem State.setPhase_mode (v : Phase) : (s.setPhase v).mode = s.mode := rfl
@[simp] theorem State.setPhase_humRaw (v : Phase) : (s.setPhase v).humRaw = s.humRaw := rfl
@[simp] theorem State.setPhase_tempRaw (v : Phase) : (s.setPhase v).tempRaw = s.tempRaw := rfl
@[simp] theorem State.setPhase_humidityPct (v : Phase) : (s.setPhase v).humidityPct = s.humidityPct := rfl
@[simp] theorem State.setPhase_temperatureC (v : Phase) : (s.setPhase v).temperatureC = s.temperatureC := rfl
@[simp] theorem State.setPhase_cmds (v : Phase) : (s.setPhase v).cmds = s.cmds := rfl
@[simp] theorem State.setPhase_wrAnswers (v : Phase) : (s.setPhase v).wrAnswers = s.wrAnswers := rfl
@[simp] theorem State.setPhase_rdAnswers (v : Phase) : (s.setPhase v).rdAnswers = s.rdAnswers := rfl
@[simp] theorem State.setPhase_dlyDones (v : Phase) : (s.setPhase v).dlyDones = s.dlyDones := rfl
@[simp] theorem State.setPhase_rspTakes (v : Phase) : (s.setPhase v).rspTakes = s.rspTakes := rfl
@[simp] theorem State.setPhase_decIn (v : Phase) : (s.setPhase v).decIn = s.decIn := rfl
@[simp] theorem State.setPhase_trace (v : Phase) : (s.setPhase v).trace = s.trace := rfl

/-! ### setCurOp -/

@[simp] theorem State.setCurOp_st (v : HostOp) : (s.setCurOp v).st = s.st := rfl
@[simp] theorem State.setCurOp_phase (v : HostOp) : (s.setCurOp v).phase = s.phase := rfl
@[simp] theorem State.setCurOp_curOp (v : HostOp) : (s.setCurOp v).curOp = v := rfl
@[simp] theorem State.setCurOp_rx (v : HostOp) : (s.setCurOp v).rx = s.rx := rfl
@[simp] theorem State.setCurOp_resultReg (v : HostOp) : (s.setCurOp v).resultReg = s.resultReg := rfl
@[simp] theorem State.setCurOp_statusValid (v : HostOp) : (s.setCurOp v).statusValid = s.statusValid := rfl
@[simp] theorem State.setCurOp_measValid (v : HostOp) : (s.setCurOp v).measValid = s.measValid := rfl
@[simp] theorem State.setCurOp_statusRaw (v : HostOp) : (s.setCurOp v).statusRaw = s.statusRaw := rfl
@[simp] theorem State.setCurOp_busy (v : HostOp) : (s.setCurOp v).busy = s.busy := rfl
@[simp] theorem State.setCurOp_calibrated (v : HostOp) : (s.setCurOp v).calibrated = s.calibrated := rfl
@[simp] theorem State.setCurOp_mode (v : HostOp) : (s.setCurOp v).mode = s.mode := rfl
@[simp] theorem State.setCurOp_humRaw (v : HostOp) : (s.setCurOp v).humRaw = s.humRaw := rfl
@[simp] theorem State.setCurOp_tempRaw (v : HostOp) : (s.setCurOp v).tempRaw = s.tempRaw := rfl
@[simp] theorem State.setCurOp_humidityPct (v : HostOp) : (s.setCurOp v).humidityPct = s.humidityPct := rfl
@[simp] theorem State.setCurOp_temperatureC (v : HostOp) : (s.setCurOp v).temperatureC = s.temperatureC := rfl
@[simp] theorem State.setCurOp_cmds (v : HostOp) : (s.setCurOp v).cmds = s.cmds := rfl
@[simp] theorem State.setCurOp_wrAnswers (v : HostOp) : (s.setCurOp v).wrAnswers = s.wrAnswers := rfl
@[simp] theorem State.setCurOp_rdAnswers (v : HostOp) : (s.setCurOp v).rdAnswers = s.rdAnswers := rfl
@[simp] theorem State.setCurOp_dlyDones (v : HostOp) : (s.setCurOp v).dlyDones = s.dlyDones := rfl
@[simp] theorem State.setCurOp_rspTakes (v : HostOp) : (s.setCurOp v).rspTakes = s.rspTakes := rfl
@[simp] theorem State.setCurOp_decIn (v : HostOp) : (s.setCurOp v).decIn = s.decIn := rfl
@[simp] theorem State.setCurOp_trace (v : HostOp) : (s.setCurOp v).trace = s.trace := rfl

/-! ### setRx -/

@[simp] theorem State.setRx_st (v : RxBuf) : (s.setRx v).st = s.st := rfl
@[simp] theorem State.setRx_phase (v : RxBuf) : (s.setRx v).phase = s.phase := rfl
@[simp] theorem State.setRx_curOp (v : RxBuf) : (s.setRx v).curOp = s.curOp := rfl
@[simp] theorem State.setRx_rx (v : RxBuf) : (s.setRx v).rx = v := rfl
@[simp] theorem State.setRx_resultReg (v : RxBuf) : (s.setRx v).resultReg = s.resultReg := rfl
@[simp] theorem State.setRx_statusValid (v : RxBuf) : (s.setRx v).statusValid = s.statusValid := rfl
@[simp] theorem State.setRx_measValid (v : RxBuf) : (s.setRx v).measValid = s.measValid := rfl
@[simp] theorem State.setRx_statusRaw (v : RxBuf) : (s.setRx v).statusRaw = s.statusRaw := rfl
@[simp] theorem State.setRx_busy (v : RxBuf) : (s.setRx v).busy = s.busy := rfl
@[simp] theorem State.setRx_calibrated (v : RxBuf) : (s.setRx v).calibrated = s.calibrated := rfl
@[simp] theorem State.setRx_mode (v : RxBuf) : (s.setRx v).mode = s.mode := rfl
@[simp] theorem State.setRx_humRaw (v : RxBuf) : (s.setRx v).humRaw = s.humRaw := rfl
@[simp] theorem State.setRx_tempRaw (v : RxBuf) : (s.setRx v).tempRaw = s.tempRaw := rfl
@[simp] theorem State.setRx_humidityPct (v : RxBuf) : (s.setRx v).humidityPct = s.humidityPct := rfl
@[simp] theorem State.setRx_temperatureC (v : RxBuf) : (s.setRx v).temperatureC = s.temperatureC := rfl
@[simp] theorem State.setRx_cmds (v : RxBuf) : (s.setRx v).cmds = s.cmds := rfl
@[simp] theorem State.setRx_wrAnswers (v : RxBuf) : (s.setRx v).wrAnswers = s.wrAnswers := rfl
@[simp] theorem State.setRx_rdAnswers (v : RxBuf) : (s.setRx v).rdAnswers = s.rdAnswers := rfl
@[simp] theorem State.setRx_dlyDones (v : RxBuf) : (s.setRx v).dlyDones = s.dlyDones := rfl
@[simp] theorem State.setRx_rspTakes (v : RxBuf) : (s.setRx v).rspTakes = s.rspTakes := rfl
@[simp] theorem State.setRx_decIn (v : RxBuf) : (s.setRx v).decIn = s.decIn := rfl
@[simp] theorem State.setRx_trace (v : RxBuf) : (s.setRx v).trace = s.trace := rfl

/-! ### setResult -/

@[simp] theorem State.setResult_st (r : ResultCode) (a b : Bool) : (s.setResult r a b).st = s.st := rfl
@[simp] theorem State.setResult_phase (r : ResultCode) (a b : Bool) : (s.setResult r a b).phase = s.phase := rfl
@[simp] theorem State.setResult_curOp (r : ResultCode) (a b : Bool) : (s.setResult r a b).curOp = s.curOp := rfl
@[simp] theorem State.setResult_rx (r : ResultCode) (a b : Bool) : (s.setResult r a b).rx = s.rx := rfl
@[simp] theorem State.setResult_resultReg (r : ResultCode) (a b : Bool) : (s.setResult r a b).resultReg = r := rfl
@[simp] theorem State.setResult_statusValid (r : ResultCode) (a b : Bool) : (s.setResult r a b).statusValid = a := rfl
@[simp] theorem State.setResult_measValid (r : ResultCode) (a b : Bool) : (s.setResult r a b).measValid = b := rfl
@[simp] theorem State.setResult_statusRaw (r : ResultCode) (a b : Bool) : (s.setResult r a b).statusRaw = s.statusRaw := rfl
@[simp] theorem State.setResult_busy (r : ResultCode) (a b : Bool) : (s.setResult r a b).busy = s.busy := rfl
@[simp] theorem State.setResult_calibrated (r : ResultCode) (a b : Bool) : (s.setResult r a b).calibrated = s.calibrated := rfl
@[simp] theorem State.setResult_mode (r : ResultCode) (a b : Bool) : (s.setResult r a b).mode = s.mode := rfl
@[simp] theorem State.setResult_humRaw (r : ResultCode) (a b : Bool) : (s.setResult r a b).humRaw = s.humRaw := rfl
@[simp] theorem State.setResult_tempRaw (r : ResultCode) (a b : Bool) : (s.setResult r a b).tempRaw = s.tempRaw := rfl
@[simp] theorem State.setResult_humidityPct (r : ResultCode) (a b : Bool) : (s.setResult r a b).humidityPct = s.humidityPct := rfl
@[simp] theorem State.setResult_temperatureC (r : ResultCode) (a b : Bool) : (s.setResult r a b).temperatureC = s.temperatureC := rfl
@[simp] theorem State.setResult_cmds (r : ResultCode) (a b : Bool) : (s.setResult r a b).cmds = s.cmds := rfl
@[simp] theorem State.setResult_wrAnswers (r : ResultCode) (a b : Bool) : (s.setResult r a b).wrAnswers = s.wrAnswers := rfl
@[simp] theorem State.setResult_rdAnswers (r : ResultCode) (a b : Bool) : (s.setResult r a b).rdAnswers = s.rdAnswers := rfl
@[simp] theorem State.setResult_dlyDones (r : ResultCode) (a b : Bool) : (s.setResult r a b).dlyDones = s.dlyDones := rfl
@[simp] theorem State.setResult_rspTakes (r : ResultCode) (a b : Bool) : (s.setResult r a b).rspTakes = s.rspTakes := rfl
@[simp] theorem State.setResult_decIn (r : ResultCode) (a b : Bool) : (s.setResult r a b).decIn = s.decIn := rfl
@[simp] theorem State.setResult_trace (r : ResultCode) (a b : Bool) : (s.setResult r a b).trace = s.trace := rfl

/-! ### setStatus -/

@[simp] theorem State.setStatus_st (w : Byte) (o : StatusOut) : (s.setStatus w o).st = s.st := rfl
@[simp] theorem State.setStatus_phase (w : Byte) (o : StatusOut) : (s.setStatus w o).phase = s.phase := rfl
@[simp] theorem State.setStatus_curOp (w : Byte) (o : StatusOut) : (s.setStatus w o).curOp = s.curOp := rfl
@[simp] theorem State.setStatus_rx (w : Byte) (o : StatusOut) : (s.setStatus w o).rx = s.rx := rfl
@[simp] theorem State.setStatus_resultReg (w : Byte) (o : StatusOut) : (s.setStatus w o).resultReg = s.resultReg := rfl
@[simp] theorem State.setStatus_statusValid (w : Byte) (o : StatusOut) : (s.setStatus w o).statusValid = s.statusValid := rfl
@[simp] theorem State.setStatus_measValid (w : Byte) (o : StatusOut) : (s.setStatus w o).measValid = s.measValid := rfl
@[simp] theorem State.setStatus_statusRaw (w : Byte) (o : StatusOut) : (s.setStatus w o).statusRaw = w := rfl
@[simp] theorem State.setStatus_busy (w : Byte) (o : StatusOut) : (s.setStatus w o).busy = o.busy := rfl
@[simp] theorem State.setStatus_calibrated (w : Byte) (o : StatusOut) : (s.setStatus w o).calibrated = o.calibrated := rfl
@[simp] theorem State.setStatus_mode (w : Byte) (o : StatusOut) : (s.setStatus w o).mode = o.mode := rfl
@[simp] theorem State.setStatus_humRaw (w : Byte) (o : StatusOut) : (s.setStatus w o).humRaw = s.humRaw := rfl
@[simp] theorem State.setStatus_tempRaw (w : Byte) (o : StatusOut) : (s.setStatus w o).tempRaw = s.tempRaw := rfl
@[simp] theorem State.setStatus_humidityPct (w : Byte) (o : StatusOut) : (s.setStatus w o).humidityPct = s.humidityPct := rfl
@[simp] theorem State.setStatus_temperatureC (w : Byte) (o : StatusOut) : (s.setStatus w o).temperatureC = s.temperatureC := rfl
@[simp] theorem State.setStatus_cmds (w : Byte) (o : StatusOut) : (s.setStatus w o).cmds = s.cmds := rfl
@[simp] theorem State.setStatus_wrAnswers (w : Byte) (o : StatusOut) : (s.setStatus w o).wrAnswers = s.wrAnswers := rfl
@[simp] theorem State.setStatus_rdAnswers (w : Byte) (o : StatusOut) : (s.setStatus w o).rdAnswers = s.rdAnswers := rfl
@[simp] theorem State.setStatus_dlyDones (w : Byte) (o : StatusOut) : (s.setStatus w o).dlyDones = s.dlyDones := rfl
@[simp] theorem State.setStatus_rspTakes (w : Byte) (o : StatusOut) : (s.setStatus w o).rspTakes = s.rspTakes := rfl
@[simp] theorem State.setStatus_decIn (w : Byte) (o : StatusOut) : (s.setStatus w o).decIn = s.decIn := rfl
@[simp] theorem State.setStatus_trace (w : Byte) (o : StatusOut) : (s.setStatus w o).trace = s.trace := rfl

/-! ### setMeas -/

@[simp] theorem State.setMeas_st (o : FrameOut) : (s.setMeas o).st = s.st := rfl
@[simp] theorem State.setMeas_phase (o : FrameOut) : (s.setMeas o).phase = s.phase := rfl
@[simp] theorem State.setMeas_curOp (o : FrameOut) : (s.setMeas o).curOp = s.curOp := rfl
@[simp] theorem State.setMeas_rx (o : FrameOut) : (s.setMeas o).rx = s.rx := rfl
@[simp] theorem State.setMeas_resultReg (o : FrameOut) : (s.setMeas o).resultReg = s.resultReg := rfl
@[simp] theorem State.setMeas_statusValid (o : FrameOut) : (s.setMeas o).statusValid = s.statusValid := rfl
@[simp] theorem State.setMeas_measValid (o : FrameOut) : (s.setMeas o).measValid = s.measValid := rfl
@[simp] theorem State.setMeas_statusRaw (o : FrameOut) : (s.setMeas o).statusRaw = s.statusRaw := rfl
@[simp] theorem State.setMeas_busy (o : FrameOut) : (s.setMeas o).busy = s.busy := rfl
@[simp] theorem State.setMeas_calibrated (o : FrameOut) : (s.setMeas o).calibrated = s.calibrated := rfl
@[simp] theorem State.setMeas_mode (o : FrameOut) : (s.setMeas o).mode = s.mode := rfl
@[simp] theorem State.setMeas_humRaw (o : FrameOut) : (s.setMeas o).humRaw = o.humRaw := rfl
@[simp] theorem State.setMeas_tempRaw (o : FrameOut) : (s.setMeas o).tempRaw = o.tempRaw := rfl
@[simp] theorem State.setMeas_humidityPct (o : FrameOut) : (s.setMeas o).humidityPct = o.humidityPct := rfl
@[simp] theorem State.setMeas_temperatureC (o : FrameOut) : (s.setMeas o).temperatureC = o.temperatureC := rfl
@[simp] theorem State.setMeas_cmds (o : FrameOut) : (s.setMeas o).cmds = s.cmds := rfl
@[simp] theorem State.setMeas_wrAnswers (o : FrameOut) : (s.setMeas o).wrAnswers = s.wrAnswers := rfl
@[simp] theorem State.setMeas_rdAnswers (o : FrameOut) : (s.setMeas o).rdAnswers = s.rdAnswers := rfl
@[simp] theorem State.setMeas_dlyDones (o : FrameOut) : (s.setMeas o).dlyDones = s.dlyDones := rfl
@[simp] theorem State.setMeas_rspTakes (o : FrameOut) : (s.setMeas o).rspTakes = s.rspTakes := rfl
@[simp] theorem State.setMeas_decIn (o : FrameOut) : (s.setMeas o).decIn = s.decIn := rfl
@[simp] theorem State.setMeas_trace (o : FrameOut) : (s.setMeas o).trace = s.trace := rfl

/-! ### record -/

@[simp] theorem State.record_st (e : Event) : (s.record e).st = s.st := rfl
@[simp] theorem State.record_phase (e : Event) : (s.record e).phase = s.phase := rfl
@[simp] theorem State.record_curOp (e : Event) : (s.record e).curOp = s.curOp := rfl
@[simp] theorem State.record_rx (e : Event) : (s.record e).rx = s.rx := rfl
@[simp] theorem State.record_resultReg (e : Event) : (s.record e).resultReg = s.resultReg := rfl
@[simp] theorem State.record_statusValid (e : Event) : (s.record e).statusValid = s.statusValid := rfl
@[simp] theorem State.record_measValid (e : Event) : (s.record e).measValid = s.measValid := rfl
@[simp] theorem State.record_statusRaw (e : Event) : (s.record e).statusRaw = s.statusRaw := rfl
@[simp] theorem State.record_busy (e : Event) : (s.record e).busy = s.busy := rfl
@[simp] theorem State.record_calibrated (e : Event) : (s.record e).calibrated = s.calibrated := rfl
@[simp] theorem State.record_mode (e : Event) : (s.record e).mode = s.mode := rfl
@[simp] theorem State.record_humRaw (e : Event) : (s.record e).humRaw = s.humRaw := rfl
@[simp] theorem State.record_tempRaw (e : Event) : (s.record e).tempRaw = s.tempRaw := rfl
@[simp] theorem State.record_humidityPct (e : Event) : (s.record e).humidityPct = s.humidityPct := rfl
@[simp] theorem State.record_temperatureC (e : Event) : (s.record e).temperatureC = s.temperatureC := rfl
@[simp] theorem State.record_cmds (e : Event) : (s.record e).cmds = s.cmds := rfl
@[simp] theorem State.record_wrAnswers (e : Event) : (s.record e).wrAnswers = s.wrAnswers := rfl
@[simp] theorem State.record_rdAnswers (e : Event) : (s.record e).rdAnswers = s.rdAnswers := rfl
@[simp] theorem State.record_dlyDones (e : Event) : (s.record e).dlyDones = s.dlyDones := rfl
@[simp] theorem State.record_rspTakes (e : Event) : (s.record e).rspTakes = s.rspTakes := rfl
@[simp] theorem State.record_decIn (e : Event) : (s.record e).decIn = s.decIn := rfl
@[simp] theorem State.record_trace (e : Event) : (s.record e).trace = e :: s.trace := rfl

/-! ### setCmds -/

@[simp] theorem State.setCmds_st (l : List HostWord) : (s.setCmds l).st = s.st := rfl
@[simp] theorem State.setCmds_phase (l : List HostWord) : (s.setCmds l).phase = s.phase := rfl
@[simp] theorem State.setCmds_curOp (l : List HostWord) : (s.setCmds l).curOp = s.curOp := rfl
@[simp] theorem State.setCmds_rx (l : List HostWord) : (s.setCmds l).rx = s.rx := rfl
@[simp] theorem State.setCmds_resultReg (l : List HostWord) : (s.setCmds l).resultReg = s.resultReg := rfl
@[simp] theorem State.setCmds_statusValid (l : List HostWord) : (s.setCmds l).statusValid = s.statusValid := rfl
@[simp] theorem State.setCmds_measValid (l : List HostWord) : (s.setCmds l).measValid = s.measValid := rfl
@[simp] theorem State.setCmds_statusRaw (l : List HostWord) : (s.setCmds l).statusRaw = s.statusRaw := rfl
@[simp] theorem State.setCmds_busy (l : List HostWord) : (s.setCmds l).busy = s.busy := rfl
@[simp] theorem State.setCmds_calibrated (l : List HostWord) : (s.setCmds l).calibrated = s.calibrated := rfl
@[simp] theorem State.setCmds_mode (l : List HostWord) : (s.setCmds l).mode = s.mode := rfl
@[simp] theorem State.setCmds_humRaw (l : List HostWord) : (s.setCmds l).humRaw = s.humRaw := rfl
@[simp] theorem State.setCmds_tempRaw (l : List HostWord) : (s.setCmds l).tempRaw = s.tempRaw := rfl
@[simp] theorem State.setCmds_humidityPct (l : List HostWord) : (s.setCmds l).humidityPct = s.humidityPct := rfl
@[simp] theorem State.setCmds_temperatureC (l : List HostWord) : (s.setCmds l).temperatureC = s.temperatureC := rfl
@[simp] theorem State.setCmds_cmds (l : List HostWord) : (s.setCmds l).cmds = l := rfl
@[simp] theorem State.setCmds_wrAnswers (l : List HostWord) : (s.setCmds l).wrAnswers = s.wrAnswers := rfl
@[simp] theorem State.setCmds_rdAnswers (l : List HostWord) : (s.setCmds l).rdAnswers = s.rdAnswers := rfl
@[simp] theorem State.setCmds_dlyDones (l : List HostWord) : (s.setCmds l).dlyDones = s.dlyDones := rfl
@[simp] theorem State.setCmds_rspTakes (l : List HostWord) : (s.setCmds l).rspTakes = s.rspTakes := rfl
@[simp] theorem State.setCmds_decIn (l : List HostWord) : (s.setCmds l).decIn = s.decIn := rfl
@[simp] theorem State.setCmds_trace (l : List HostWord) : (s.setCmds l).trace = s.trace := rfl

/-! ### setWrAnswers -/

@[simp] theorem State.setWrAnswers_st (l : List WrAnswer) : (s.setWrAnswers l).st = s.st := rfl
@[simp] theorem State.setWrAnswers_phase (l : List WrAnswer) : (s.setWrAnswers l).phase = s.phase := rfl
@[simp] theorem State.setWrAnswers_curOp (l : List WrAnswer) : (s.setWrAnswers l).curOp = s.curOp := rfl
@[simp] theorem State.setWrAnswers_rx (l : List WrAnswer) : (s.setWrAnswers l).rx = s.rx := rfl
@[simp] theorem State.setWrAnswers_resultReg (l : List WrAnswer) : (s.setWrAnswers l).resultReg = s.resultReg := rfl
@[simp] theorem State.setWrAnswers_statusValid (l : List WrAnswer) : (s.setWrAnswers l).statusValid = s.statusValid := rfl
@[simp] theorem State.setWrAnswers_measValid (l : List WrAnswer) : (s.setWrAnswers l).measValid = s.measValid := rfl
@[simp] theorem State.setWrAnswers_statusRaw (l : List WrAnswer) : (s.setWrAnswers l).statusRaw = s.statusRaw := rfl
@[simp] theorem State.setWrAnswers_busy (l : List WrAnswer) : (s.setWrAnswers l).busy = s.busy := rfl
@[simp] theorem State.setWrAnswers_calibrated (l : List WrAnswer) : (s.setWrAnswers l).calibrated = s.calibrated := rfl
@[simp] theorem State.setWrAnswers_mode (l : List WrAnswer) : (s.setWrAnswers l).mode = s.mode := rfl
@[simp] theorem State.setWrAnswers_humRaw (l : List WrAnswer) : (s.setWrAnswers l).humRaw = s.humRaw := rfl
@[simp] theorem State.setWrAnswers_tempRaw (l : List WrAnswer) : (s.setWrAnswers l).tempRaw = s.tempRaw := rfl
@[simp] theorem State.setWrAnswers_humidityPct (l : List WrAnswer) : (s.setWrAnswers l).humidityPct = s.humidityPct := rfl
@[simp] theorem State.setWrAnswers_temperatureC (l : List WrAnswer) : (s.setWrAnswers l).temperatureC = s.temperatureC := rfl
@[simp] theorem State.setWrAnswers_cmds (l : List WrAnswer) : (s.setWrAnswers l).cmds = s.cmds := rfl
@[simp] theorem State.setWrAnswers_wrAnswers (l : List WrAnswer) : (s.setWrAnswers l).wrAnswers = l := rfl
@[simp] theorem State.setWrAnswers_rdAnswers (l : List WrAnswer) : (s.setWrAnswers l).rdAnswers = s.rdAnswers := rfl
@[simp] theorem State.setWrAnswers_dlyDones (l : List WrAnswer) : (s.setWrAnswers l).dlyDones = s.dlyDones := rfl
@[simp] theorem State.setWrAnswers_rspTakes (l : List WrAnswer) : (s.setWrAnswers l).rspTakes = s.rspTakes := rfl
@[simp] theorem State.setWrAnswers_decIn (l : List WrAnswer) : (s.setWrAnswers l).decIn = s.decIn := rfl
@[simp] theorem State.setWrAnswers_trace (l : List WrAnswer) : (s.setWrAnswers l).trace = s.trace := rfl

/-! ### setRdAnswers -/

@[simp] theorem State.setRdAnswers_st (l : List RdAnswer) : (s.setRdAnswers l).st = s.st := rfl
@[simp] theorem State.setRdAnswers_phase (l : List RdAnswer) : (s.setRdAnswers l).phase = s.phase := rfl
@[simp] theorem State.setRdAnswers_curOp (l : List RdAnswer) : (s.setRdAnswers l).curOp = s.curOp := rfl
@[simp] theorem State.setRdAnswers_rx (l : List RdAnswer) : (s.setRdAnswers l).rx = s.rx := rfl
@[simp] theorem State.setRdAnswers_resultReg (l : List RdAnswer) : (s.setRdAnswers l).resultReg = s.resultReg := rfl
@[simp] theorem State.setRdAnswers_statusValid (l : List RdAnswer) : (s.setRdAnswers l).statusValid = s.statusValid := rfl
@[simp] theorem State.setRdAnswers_measValid (l : List RdAnswer) : (s.setRdAnswers l).measValid = s.measValid := rfl
@[simp] theorem State.setRdAnswers_statusRaw (l : List RdAnswer) : (s.setRdAnswers l).statusRaw = s.statusRaw := rfl
@[simp] theorem State.setRdAnswers_busy (l : List RdAnswer) : (s.setRdAnswers l).busy = s.busy := rfl
@[simp] theorem State.setRdAnswers_calibrated (l : List RdAnswer) : (s.setRdAnswers l).calibrated = s.calibrated := rfl
@[simp] theorem State.setRdAnswers_mode (l : List RdAnswer) : (s.setRdAnswers l).mode = s.mode := rfl
@[simp] theorem State.setRdAnswers_humRaw (l : List RdAnswer) : (s.setRdAnswers l).humRaw = s.humRaw := rfl
@[simp] theorem State.setRdAnswers_tempRaw (l : List RdAnswer) : (s.setRdAnswers l).tempRaw = s.tempRaw := rfl
@[simp] theorem State.setRdAnswers_humidityPct (l : List RdAnswer) : (s.setRdAnswers l).humidityPct = s.humidityPct := rfl
@[simp] theorem State.setRdAnswers_temperatureC (l : List RdAnswer) : (s.setRdAnswers l).temperatureC = s.temperatureC := rfl
@[simp] theorem State.setRdAnswers_cmds (l : List RdAnswer) : (s.setRdAnswers l).cmds = s.cmds := rfl
@[simp] theorem State.setRdAnswers_wrAnswers (l : List RdAnswer) : (s.setRdAnswers l).wrAnswers = s.wrAnswers := rfl
@[simp] theorem State.setRdAnswers_rdAnswers (l : List RdAnswer) : (s.setRdAnswers l).rdAnswers = l := rfl
@[simp] theorem State.setRdAnswers_dlyDones (l : List RdAnswer) : (s.setRdAnswers l).dlyDones = s.dlyDones := rfl
@[simp] theorem State.setRdAnswers_rspTakes (l : List RdAnswer) : (s.setRdAnswers l).rspTakes = s.rspTakes := rfl
@[simp] theorem State.setRdAnswers_decIn (l : List RdAnswer) : (s.setRdAnswers l).decIn = s.decIn := rfl
@[simp] theorem State.setRdAnswers_trace (l : List RdAnswer) : (s.setRdAnswers l).trace = s.trace := rfl

/-! ### setDlyDones -/

@[simp] theorem State.setDlyDones_st (n : Nat) : (s.setDlyDones n).st = s.st := rfl
@[simp] theorem State.setDlyDones_phase (n : Nat) : (s.setDlyDones n).phase = s.phase := rfl
@[simp] theorem State.setDlyDones_curOp (n : Nat) : (s.setDlyDones n).curOp = s.curOp := rfl
@[simp] theorem State.setDlyDones_rx (n : Nat) : (s.setDlyDones n).rx = s.rx := rfl
@[simp] theorem State.setDlyDones_resultReg (n : Nat) : (s.setDlyDones n).resultReg = s.resultReg := rfl
@[simp] theorem State.setDlyDones_statusValid (n : Nat) : (s.setDlyDones n).statusValid = s.statusValid := rfl
@[simp] theorem State.setDlyDones_measValid (n : Nat) : (s.setDlyDones n).measValid = s.measValid := rfl
@[simp] theorem State.setDlyDones_statusRaw (n : Nat) : (s.setDlyDones n).statusRaw = s.statusRaw := rfl
@[simp] theorem State.setDlyDones_busy (n : Nat) : (s.setDlyDones n).busy = s.busy := rfl
@[simp] theorem State.setDlyDones_calibrated (n : Nat) : (s.setDlyDones n).calibrated = s.calibrated := rfl
@[simp] theorem State.setDlyDones_mode (n : Nat) : (s.setDlyDones n).mode = s.mode := rfl
@[simp] theorem State.setDlyDones_humRaw (n : Nat) : (s.setDlyDones n).humRaw = s.humRaw := rfl
@[simp] theorem State.setDlyDones_tempRaw (n : Nat) : (s.setDlyDones n).tempRaw = s.tempRaw := rfl
@[simp] theorem State.setDlyDones_humidityPct (n : Nat) : (s.setDlyDones n).humidityPct = s.humidityPct := rfl
@[simp] theorem State.setDlyDones_temperatureC (n : Nat) : (s.setDlyDones n).temperatureC = s.temperatureC := rfl
@[simp] theorem State.setDlyDones_cmds (n : Nat) : (s.setDlyDones n).cmds = s.cmds := rfl
@[simp] theorem State.setDlyDones_wrAnswers (n : Nat) : (s.setDlyDones n).wrAnswers = s.wrAnswers := rfl
@[simp] theorem State.setDlyDones_rdAnswers (n : Nat) : (s.setDlyDones n).rdAnswers = s.rdAnswers := rfl
@[simp] theorem State.setDlyDones_dlyDones (n : Nat) : (s.setDlyDones n).dlyDones = n := rfl
@[simp] theorem State.setDlyDones_rspTakes (n : Nat) : (s.setDlyDones n).rspTakes = s.rspTakes := rfl
@[simp] theorem State.setDlyDones_decIn (n : Nat) : (s.setDlyDones n).decIn = s.decIn := rfl
@[simp] theorem State.setDlyDones_trace (n : Nat) : (s.setDlyDones n).trace = s.trace := rfl

/-! ### setRspTakes -/

@[simp] theorem State.setRspTakes_st (n : Nat) : (s.setRspTakes n).st = s.st := rfl
@[simp] theorem State.setRspTakes_phase (n : Nat) : (s.setRspTakes n).phase = s.phase := rfl
@[simp] theorem State.setRspTakes_curOp (n : Nat) : (s.setRspTakes n).curOp = s.curOp := rfl
@[simp] theorem State.setRspTakes_rx (n : Nat) : (s.setRspTakes n).rx = s.rx := rfl
@[simp] theorem State.setRspTakes_resultReg (n : Nat) : (s.setRspTakes n).resultReg = s.resultReg := rfl
@[simp] theorem State.setRspTakes_statusValid (n : Nat) : (s.setRspTakes n).statusValid = s.statusValid := rfl
@[simp] theorem State.setRspTakes_measValid (n : Nat) : (s.setRspTakes n).measValid = s.measValid := rfl
@[simp] theorem State.setRspTakes_statusRaw (n : Nat) : (s.setRspTakes n).statusRaw = s.statusRaw := rfl
@[simp] theorem State.setRspTakes_busy (n : Nat) : (s.setRspTakes n).busy = s.busy := rfl
@[simp] theorem State.setRspTakes_calibrated (n : Nat) : (s.setRspTakes n).calibrated = s.calibrated := rfl
@[simp] theorem State.setRspTakes_mode (n : Nat) : (s.setRspTakes n).mode = s.mode := rfl
@[simp] theorem State.setRspTakes_humRaw (n : Nat) : (s.setRspTakes n).humRaw = s.humRaw := rfl
@[simp] theorem State.setRspTakes_tempRaw (n : Nat) : (s.setRspTakes n).tempRaw = s.tempRaw := rfl
@[simp] theorem State.setRspTakes_humidityPct (n : Nat) : (s.setRspTakes n).humidityPct = s.humidityPct := rfl
@[simp] theorem State.setRspTakes_temperatureC (n : Nat) : (s.setRspTakes n).temperatureC = s.temperatureC := rfl
@[simp] theorem State.setRspTakes_cmds (n : Nat) : (s.setRspTakes n).cmds = s.cmds := rfl
@[simp] theorem State.setRspTakes_wrAnswers (n : Nat) : (s.setRspTakes n).wrAnswers = s.wrAnswers := rfl
@[simp] theorem State.setRspTakes_rdAnswers (n : Nat) : (s.setRspTakes n).rdAnswers = s.rdAnswers := rfl
@[simp] theorem State.setRspTakes_dlyDones (n : Nat) : (s.setRspTakes n).dlyDones = s.dlyDones := rfl
@[simp] theorem State.setRspTakes_rspTakes (n : Nat) : (s.setRspTakes n).rspTakes = n := rfl
@[simp] theorem State.setRspTakes_decIn (n : Nat) : (s.setRspTakes n).decIn = s.decIn := rfl
@[simp] theorem State.setRspTakes_trace (n : Nat) : (s.setRspTakes n).trace = s.trace := rfl

/-! ### setDecIn -/

@[simp] theorem State.setDecIn_st (l : List DecInput) : (s.setDecIn l).st = s.st := rfl
@[simp] theorem State.setDecIn_phase (l : List DecInput) : (s.setDecIn l).phase = s.phase := rfl
@[simp] theorem State.setDecIn_curOp (l : List DecInput) : (s.setDecIn l).curOp = s.curOp := rfl
@[simp] theorem State.setDecIn_rx (l : List DecInput) : (s.setDecIn l).rx = s.rx := rfl
@[simp] theorem State.setDecIn_resultReg (l : List DecInput) : (s.setDecIn l).resultReg = s.resultReg := rfl
@[simp] theorem State.setDecIn_statusValid (l : List DecInput) : (s.setDecIn l).statusValid = s.statusValid := rfl
@[simp] theorem State.setDecIn_measValid (l : List DecInput) : (s.setDecIn l).measValid = s.measValid := rfl
@[simp] theorem State.setDecIn_statusRaw (l : List DecInput) : (s.setDecIn l).statusRaw = s.statusRaw := rfl
@[simp] theorem State.setDecIn_busy (l : List DecInput) : (s.setDecIn l).busy = s.busy := rfl
@[simp] theorem State.setDecIn_calibrated (l : List DecInput) : (s.setDecIn l).calibrated = s.calibrated := rfl
@[simp] theorem State.setDecIn_mode (l : List DecInput) : (s.setDecIn l).mode = s.mode := rfl
@[simp] theorem State.setDecIn_humRaw (l : List DecInput) : (s.setDecIn l).humRaw = s.humRaw := rfl
@[simp] theorem State.setDecIn_tempRaw (l : List DecInput) : (s.setDecIn l).tempRaw = s.tempRaw := rfl
@[simp] theorem State.setDecIn_humidityPct (l : List DecInput) : (s.setDecIn l).humidityPct = s.humidityPct := rfl
@[simp] theorem State.setDecIn_temperatureC (l : List DecInput) : (s.setDecIn l).temperatureC = s.temperatureC := rfl
@[simp] theorem State.setDecIn_cmds (l : List DecInput) : (s.setDecIn l).cmds = s.cmds := rfl
@[simp] theorem State.setDecIn_wrAnswers (l : List DecInput) : (s.setDecIn l).wrAnswers = s.wrAnswers := rfl
@[simp] theorem State.setDecIn_rdAnswers (l : List DecInput) : (s.setDecIn l).rdAnswers = s.rdAnswers := rfl
@[simp] theorem State.setDecIn_dlyDones (l : List DecInput) : (s.setDecIn l).dlyDones = s.dlyDones := rfl
@[simp] theorem State.setDecIn_rspTakes (l : List DecInput) : (s.setDecIn l).rspTakes = s.rspTakes := rfl
@[simp] theorem State.setDecIn_decIn (l : List DecInput) : (s.setDecIn l).decIn = l := rfl
@[simp] theorem State.setDecIn_trace (l : List DecInput) : (s.setDecIn l).trace = s.trace := rfl

end Sys2Proof.Machine
end

