-- ==== Sys2Proof/Laws/Ops.lean ====
section
/-!
SUPPORT. What each shared operation does, said once: its whole effect on the state, or, for one that may wait or
stop, every way in which it answers a next state.
-/

namespace Sys2Proof.Machine

variable {s t : State} {k : State → State}

/-! ### Operations that answer a state -/

theorem issueWrite_eq (frame : List Byte) (s : State) :
    issueWrite frame s = { s with trace := .memWrite 0x38 frame :: s.trace, phase := .wr } := rfl

theorem issueRead_eq (n : Count) (s : State) :
    issueRead n s = { s with trace := .memRead 0x38 n :: s.trace, phase := .rd } := rfl

theorem issueDelay_eq (p : Phase) (ms : Millis) (s : State) :
    issueDelay p ms s = { s with trace := .delay ms :: s.trace, phase := p } := rfl

theorem respond_eq (r : ResultCode) (sv mv : Bool) (s : State) :
    respond r sv mv s = { s with resultReg := r, statusValid := sv, measValid := mv, phase := .rsp } := rfl

theorem takeResponse_eq (s : State) :
    takeResponse s = { s with
      trace := .rsp s.response :: s.trace, rspTakes := s.rspTakes - 1, phase := .idle } := rfl

theorem raise_eq (e : Failure) (s : State) :
    raise e s = { s with
      st := failSt e s, resultReg := e.code, statusValid := e.carriesStatus, measValid := false,
      phase := .rsp } := rfl

theorem latchStatus_eq (s : State) :
    latchStatus s = { s with
      statusRaw := s.rx.r0, busy := statusBusy s.rx.r0, calibrated := statusCalibrated s.rx.r0,
      mode := statusMode s.rx.r0 } := rfl

theorem receive_eq (n : Nat) (bytes : List Byte) (s : State) :
    receive n bytes s = latchStatus { s with rx := s.rx.fill n bytes } := rfl

theorem latchMeas_eq (s : State) :
    latchMeas s = { s with
      humRaw := humidityRaw s.rx.r1 s.rx.r2 s.rx.r3, tempRaw := temperatureRaw s.rx.r3 s.rx.r4 s.rx.r5,
      humidityPct := humidityPctOf (humidityRaw s.rx.r1 s.rx.r2 s.rx.r3),
      temperatureC := temperatureCOf (temperatureRaw s.rx.r3 s.rx.r4 s.rx.r5) } := rfl

/-- One byte of a complete read into `rx[0]` (R112). -/
theorem fill_one (rx : RxBuf) (b : Byte) (more : List Byte) :
    rx.fill 1 (b :: more) = { rx with r0 := b } := rfl

/-- Six bytes of a complete read into `rx` (R113). -/
theorem fill_six (rx : RxBuf) (b d0 d1 d2 d3 d4 : Byte) (more : List Byte) :
    rx.fill 6 (b :: d0 :: d1 :: d2 :: d3 :: d4 :: more) = ⟨b, d0, d1, d2, d3, d4⟩ := rfl

/-- How `MEASURE` ends once its frame has arrived (R158, R187). -/
theorem finishMeasure_cases (s : State) :
    (s.busy = true ∧ finishMeasure s = raise .deviceBusy s) ∨
    (s.busy = false ∧ s.calibrated = false ∧ finishMeasure s = raise .notCalibrated s) ∨
    (s.busy = false ∧ s.calibrated = true ∧
      finishMeasure s = respond .ok true true ((latchMeas s).setSt .ready)) := by
  unfold finishMeasure
  cases s.busy <;> cases s.calibrated <;> simp

/-! ### Operations that may wait or stop -/

theorem accepting_next (h : accepting s k = .next t) :
    (s.phase = .idle ∧ t = k s) ∨ (s.phase ≠ .idle ∧ t = s) := by
  unfold accepting at h
  split at h <;> cases h <;> simp_all

theorem accepting_idle (h : s.phase = .idle) : accepting s k = .next (k s) := if_pos h

theorem accepting_busy (h : s.phase ≠ .idle) : accepting s k = .next s := if_neg h

theorem selected_next {b : Bool} {r : Result} (h : selected b r = .next t) : b = true ∧ r = .next t := by
  cases b
  · cases h
  · exact ⟨rfl, h⟩

/-- A wait for `DlyDone` holds the state or takes one delay answer. -/
theorem awaitDelay_next (h : awaitDelay s k = .next t) :
    (s.dlyDones = 0 ∧ t = s) ∨
    ∃ n, s.dlyDones = n + 1 ∧ t = k ((s.setDlyDones n).record .dlyDone) := by
  unfold awaitDelay at h
  split at h <;> cases h
  · exact .inl ⟨‹_›, rfl⟩
  · exact .inr ⟨_, ‹_›, rfl⟩

/-- A wait for the write answer holds the state, fails, or goes on. -/
theorem awaitWrite_next (h : awaitWrite s k = .next t) :
    (s.wrAnswers = [] ∧ t = s) ∨
    (∃ rest, s.wrAnswers = .err :: rest ∧
      t = raise .transportError ((s.setWrAnswers rest).record (.wrAnswer .err))) ∨
    (∃ rest, s.wrAnswers = .ok :: rest ∧ t = k ((s.setWrAnswers rest).record (.wrAnswer .ok))) := by
  unfold awaitWrite at h
  split at h <;> cases h
  · exact .inl ⟨‹_›, rfl⟩
  · exact .inr (.inl ⟨_, ‹_›, rfl⟩)
  · exact .inr (.inr ⟨_, ‹_›, rfl⟩)

/-- A wait for the read answer holds the state, fails in one of two ways, or goes on with the frame. -/
theorem awaitRead_next {n : Nat} (h : awaitRead n s k = .next t) :
    (s.rdAnswers = [] ∧ t = s) ∨
    (∃ rest, s.rdAnswers = .err :: rest ∧
      t = raise .transportError ((s.setRdAnswers rest).record (.rdAnswer .err))) ∨
    (∃ bytes rest, s.rdAnswers = .ok bytes :: rest ∧ bytes.val.length < n ∧
      t = raise .shortRead ((s.setRdAnswers rest).record (.rdAnswer (.ok bytes)))) ∨
    (∃ bytes rest, s.rdAnswers = .ok bytes :: rest ∧ n ≤ bytes.val.length ∧
      t = k (receive n bytes.val ((s.setRdAnswers rest).record (.rdAnswer (.ok bytes))))) := by
  unfold awaitRead at h
  split at h
  · cases h
    exact .inl ⟨‹_›, rfl⟩
  · cases h
    exact .inr (.inl ⟨_, ‹_›, rfl⟩)
  · simp only at h
    split at h <;> cases h
    · exact .inr (.inr (.inl ⟨_, _, ‹_›, ‹_›, rfl⟩))
    · exact .inr (.inr (.inr ⟨_, _, ‹_›, Nat.le_of_not_lt ‹_›, rfl⟩))

end Sys2Proof.Machine
end

