-- ==== Sys2Proof/Laws/Exec.lean ====
section
/-!
SUPPORT. Everything each operation can do when it answers a next state: one inversion lemma per row of the table.
-/

namespace Sys2Proof.Machine

variable {s t : State}

theorem hostReset_next (h : exec .hostReset s = .next t) :
    (s.phase = .idle ∧ t = issueWrite Config.frameReset (s.setCurOp .reset)) ∨ (s.phase ≠ .idle ∧ t = s) := by
  unfold exec execHostReset at h
  exact accepting_next h

theorem hostInitialize_next (h : exec .hostInitialize s = .next t) :
    (s.phase = .idle ∧ t = issueDelay .dly0 Config.powerOnMs ((s.setCurOp .init).setSt .initializing)) ∨
    (s.phase ≠ .idle ∧ t = s) := by
  unfold exec execHostInitialize at h
  exact accepting_next h

theorem hostMeasure_next (h : exec .hostMeasure s = .next t) :
    (s.phase = .idle ∧ s.st = .ready ∧
      t = issueWrite Config.frameTrigger ((s.setCurOp .measure).setSt .measuring)) ∨
    (s.phase = .idle ∧ s.st ≠ .ready ∧ t = raise .notReady (s.setCurOp .measure)) ∨
    (s.phase ≠ .idle ∧ t = s) := by
  unfold exec execHostMeasure at h
  obtain ⟨hp, rfl⟩ | hw := accepting_next h
  · by_cases hr : s.st = .ready
    · exact .inl ⟨hp, hr, if_pos hr⟩
    · exact .inr (.inl ⟨hp, hr, if_neg hr⟩)
  · exact .inr (.inr hw)

/-- What a write can do: hold, fail, or go on with `k` (R156). -/
abbrev WriteNext (s t : State) (k : State → State) : Prop :=
  (s.wrAnswers = [] ∧ t = s) ∨
  (∃ rest, s.wrAnswers = .err :: rest ∧
    t = raise .transportError ((s.setWrAnswers rest).record (.wrAnswer .err))) ∨
  (∃ rest, s.wrAnswers = .ok :: rest ∧ t = k ((s.setWrAnswers rest).record (.wrAnswer .ok)))

theorem wrReset_next (h : exec .wrReset s = .next t) :
    s.curOp = .reset ∧ s.phase = .wr ∧ WriteNext s t fun s => respond .ok false false (s.setSt .idle) := by
  unfold exec execWrReset at h
  obtain ⟨hs, h⟩ := selected_next h
  have hs := of_decide_eq_true hs
  exact ⟨hs.1, hs.2, awaitWrite_next h⟩

theorem wrInit_next (h : exec .wrInit s = .next t) :
    s.curOp = .init ∧ s.phase = .wr ∧ WriteNext s t (issueDelay .dly1 Config.settleMs) := by
  unfold exec execWrInit at h
  obtain ⟨hs, h⟩ := selected_next h
  have hs := of_decide_eq_true hs
  exact ⟨hs.1, hs.2, awaitWrite_next h⟩

theorem wrTrigger_next (h : exec .wrTrigger s = .next t) :
    s.curOp = .measure ∧ s.phase = .wr ∧ WriteNext s t (issueDelay .dly1 Config.settleMs) := by
  unfold exec execWrTrigger at h
  obtain ⟨hs, h⟩ := selected_next h
  have hs := of_decide_eq_true hs
  exact ⟨hs.1, hs.2, awaitWrite_next h⟩

theorem dlyPoweron_next (h : exec .dlyPoweron s = .next t) :
    s.curOp = .init ∧ s.phase = .dly0 ∧
      ((s.dlyDones = 0 ∧ t = s) ∨
        ∃ n, s.dlyDones = n + 1 ∧ t = issueWrite Config.frameInit ((s.setDlyDones n).record .dlyDone)) := by
  unfold exec execDlyPoweron at h
  obtain ⟨hs, h⟩ := selected_next h
  have hs := of_decide_eq_true hs
  exact ⟨hs.1, hs.2, awaitDelay_next h⟩

theorem dlySettle_next (h : exec .dlySettle s = .next t) :
    s.phase = .dly1 ∧
      ((s.dlyDones = 0 ∧ t = s) ∨
        ∃ n, s.dlyDones = n + 1 ∧ t = issueRead (readLength s.curOp) ((s.setDlyDones n).record .dlyDone)) := by
  unfold exec execDlySettle at h
  obtain ⟨hs, h⟩ := selected_next h
  have hs := of_decide_eq_true hs
  exact ⟨hs, awaitDelay_next h⟩

/-- What a read of `n` bytes can do: hold, fail in one of two ways, or go on with `k` once the frame is in `rx` and
its status is decoded (R158). -/
abbrev ReadNext (n : Nat) (s t : State) (k : State → State) : Prop :=
  (s.rdAnswers = [] ∧ t = s) ∨
  (∃ rest, s.rdAnswers = .err :: rest ∧
    t = raise .transportError ((s.setRdAnswers rest).record (.rdAnswer .err))) ∨
  (∃ bytes rest, s.rdAnswers = .ok bytes :: rest ∧ bytes.val.length < n ∧
    t = raise .shortRead ((s.setRdAnswers rest).record (.rdAnswer (.ok bytes)))) ∨
  (∃ bytes rest, s.rdAnswers = .ok bytes :: rest ∧ n ≤ bytes.val.length ∧
    t = k (receive n bytes.val ((s.setRdAnswers rest).record (.rdAnswer (.ok bytes)))))

theorem rdStatus_next (h : exec .rdStatus s = .next t) :
    s.curOp = .init ∧ s.phase = .rd ∧
      ReadNext 1 s t fun s => respond .ok true false (s.setSt .ready) := by
  unfold exec execRdStatus at h
  obtain ⟨hs, h⟩ := selected_next h
  have hs := of_decide_eq_true hs
  exact ⟨hs.1, hs.2, awaitRead_next h⟩

theorem rdMeasure_next (h : exec .rdMeasure s = .next t) :
    s.curOp = .measure ∧ s.phase = .rd ∧ ReadNext 6 s t finishMeasure := by
  unfold exec execRdMeasure at h
  obtain ⟨hs, h⟩ := selected_next h
  have hs := of_decide_eq_true hs
  exact ⟨hs.1, hs.2, awaitRead_next h⟩

theorem decodeStatus_next {b : Byte} (h : exec (.decodeStatus b) s = .next t) :
    t = s.record (.statusDecoded b (parseStatus b)) := by
  cases h
  rfl

theorem decodeFrame_next {b0 b1 b2 b3 b4 : Byte} (h : exec (.decodeFrame b0 b1 b2 b3 b4) s = .next t) :
    t = s.record (.frameDecoded b0 b1 b2 b3 b4 (parseFrame b0 b1 b2 b3 b4)) := by
  cases h
  rfl

end Sys2Proof.Machine
end

