-- ==== Sys2Proof/Laws/Float32.lean ====
section
/-!
SUPPORT. What rounding to binary32 does (spec/43_frame_decoder.md R137): how far it can be from the exact value,
where it is exact, which form its result has, and which value the bit pattern of such a result stands for.
-/

namespace Sys2Proof.Machine

/-- The magnitude of a value in units of `2^-149`. -/
def F32.mag (a : F32) : Nat := a.sig * 2 ^ a.ex

/-- A value in the format's own form. -/
def F32.Normal (a : F32) : Prop := a.sig < 2 ^ 24 ∧ (a.ex = 0 ∨ 2 ^ 23 ≤ a.sig)

/-- Rounding a quotient errs by at most one half. -/
theorem roundDiv_error (num : Nat) {den : Nat} (hd : 0 < den) :
    2 * num ≤ 2 * (roundDiv num den * den) + den ∧ 2 * (roundDiv num den * den) ≤ 2 * num + den := by
  have hm := Nat.div_add_mod num den
  have hr := Nat.mod_lt num hd
  rw [Nat.mul_comm] at hm
  unfold roundDiv
  simp only
  split
  · rw [Nat.add_mul, Nat.one_mul]
    omega
  · omega

theorem roundDiv_exact (m : Nat) {den : Nat} (hd : 0 < den) : roundDiv (m * den) den = m := by
  unfold roundDiv
  simp only [Nat.mul_div_cancel m hd, Nat.mul_mod_left]
  rw [if_neg (by omega)]

theorem roundDiv_mono {a b : Nat} (den : Nat) (hab : a ≤ b) : roundDiv a den ≤ roundDiv b den := by
  have hq := Nat.div_le_div_right (c := den) hab
  by_cases he : a / den = b / den
  · have ha := Nat.div_add_mod a den
    have hb := Nat.div_add_mod b den
    rw [he] at ha
    have hr : a % den ≤ b % den := by omega
    unfold roundDiv
    simp only [he]
    split <;> split <;> omega
  · unfold roundDiv
    simp only
    split <;> split <;> omega

theorem roundF32_neg (n : Bool) (num den : Nat) : (roundF32 n num den).neg = n := by
  unfold roundF32
  simp only
  split <;> rfl

/-- The magnitude that rounding delivers; a carry out of the significand changes its form, not its value. -/
theorem roundF32_mag (n : Bool) (num den : Nat) :
    (roundF32 n num den).mag = roundDiv num (den * 2 ^ ulpExp num den) * 2 ^ ulpExp num den := by
  unfold roundF32 F32.mag
  simp only
  split
  · rename_i h
    rw [h]
    ring
  · rfl

/-- Rounding to binary32 errs by at most half a unit in the last place. -/
theorem roundF32_error (n : Bool) (num : Nat) {den : Nat} (hd : 0 < den) :
    2 * num ≤ 2 * ((roundF32 n num den).mag * den) + den * 2 ^ ulpExp num den ∧
    2 * ((roundF32 n num den).mag * den) ≤ 2 * num + den * 2 ^ ulpExp num den := by
  have h := roundDiv_error num (den := den * 2 ^ ulpExp num den) (by positivity)
  have e : roundDiv num (den * 2 ^ ulpExp num den) * (den * 2 ^ ulpExp num den) =
      (roundF32 n num den).mag * den := by
    rw [roundF32_mag]
    ring
  rw [e] at h
  exact h

/-- The quotient in units of the last place has at most 24 bits, and 24 unless the exponent is the least. -/
theorem ulpExp_spec (num den : Nat) :
    num / (den * 2 ^ ulpExp num den) < 2 ^ 24 ∧
    (ulpExp num den = 0 ∨ 2 ^ 23 ≤ num / (den * 2 ^ ulpExp num den)) := by
  have key : ∀ q : Nat, q / 2 ^ (q.log2 - 23) < 2 ^ 24 ∧ (q.log2 - 23 = 0 ∨ 2 ^ 23 ≤ q / 2 ^ (q.log2 - 23)) := by
    intro q
    by_cases h : q.log2 ≤ 23
    · have h0 : q.log2 - 23 = 0 := by omega
      rw [h0, Nat.pow_zero, Nat.div_one]
      exact ⟨lt_of_lt_of_le Nat.lt_log2_self (Nat.pow_le_pow_right (by omega) (by omega)), .inl rfl⟩
    · have hq : q ≠ 0 := by
        rintro rfl
        simp at h
      have e1 : 2 ^ (q.log2 + 1) = 2 ^ 24 * 2 ^ (q.log2 - 23) := by rw [← pow_add]; congr 1; omega
      have e2 : 2 ^ q.log2 = 2 ^ 23 * 2 ^ (q.log2 - 23) := by rw [← pow_add]; congr 1; omega
      refine ⟨Nat.div_lt_of_lt_mul ?_, .inr ((Nat.le_div_iff_mul_le (by positivity)).mpr ?_)⟩
      · rw [Nat.mul_comm, ← e1]
        exact Nat.lt_log2_self
      · rw [← e2]
        exact Nat.log2_self_le hq
  have h := key (num / den)
  rw [Nat.div_div_eq_div_mul] at h
  exact h

theorem roundDiv_le (num den : Nat) : roundDiv num den ≤ num / den + 1 := by
  unfold roundDiv
  simp only
  split <;> omega

theorem le_roundDiv (num den : Nat) : num / den ≤ roundDiv num den := by
  unfold roundDiv
  simp only
  split <;> omega

/-- Rounding delivers the format's own form. -/
theorem roundF32_normal (n : Bool) (num den : Nat) : (roundF32 n num den).Normal := by
  have h := ulpExp_spec num den
  have h1 := roundDiv_le num (den * 2 ^ ulpExp num den)
  have h2 := le_roundDiv num (den * 2 ^ ulpExp num den)
  unfold roundF32 F32.Normal
  simp only
  split
  · exact ⟨by norm_num, .inr (Nat.le_refl _)⟩
  · simp only
    omega

/-- A value of at most 24 significant bits is delivered exactly. -/
theorem roundF32_exact (n : Bool) {m : Nat} (k : Nat) {den : Nat} (hd : 0 < den) (hm : m < 2 ^ 24) :
    (roundF32 n (m * 2 ^ k * den) den).mag = m * 2 ^ k := by
  have hx : ulpExp (m * 2 ^ k * den) den ≤ k := by
    unfold ulpExp
    rw [Nat.mul_div_cancel _ hd]
    by_cases h0 : m * 2 ^ k = 0
    · simp [h0]
    · have : (m * 2 ^ k).log2 < 24 + k := by
        rw [Nat.log2_lt h0, pow_add]
        exact Nat.mul_lt_mul_of_pos_right hm (by positivity)
      omega
  rw [roundF32_mag]
  generalize ulpExp (m * 2 ^ k * den) den = x at hx ⊢
  obtain ⟨j, rfl⟩ := Nat.exists_eq_add_of_le hx
  have e : m * 2 ^ (x + j) * den = m * 2 ^ j * (den * 2 ^ x) := by rw [pow_add]; ring
  rw [e, roundDiv_exact _ (by positivity), pow_add]
  ring

/-- The value of a finite result's bit pattern. -/
theorem floatValue_bits {a : F32} (h : a.Normal) (hf : a.ex ≤ 253) :
    Safety.floatValue a.bits = (if a.neg then -1 else 1) * a.mag / 2 ^ 149 := by
  obtain ⟨h1, h2⟩ := h
  have hmin : min (a.ex * 2 ^ 23 + a.sig) 0x7F800000 = a.ex * 2 ^ 23 + a.sig := by
    apply Nat.min_eq_left
    omega
  have hlt : (if a.neg then 2 ^ 31 else 0) + (a.ex * 2 ^ 23 + a.sig) < 2 ^ 32 := by
    split <;> omega
  have hw : a.bits.toNat = (if a.neg then 2 ^ 31 else 0) + (a.ex * 2 ^ 23 + a.sig) := by
    unfold F32.bits
    rw [hmin, BitVec.toNat_ofNat, Nat.mod_eq_of_lt hlt]
  have hmsb : a.bits.msb = a.neg := by
    rw [BitVec.msb_eq_decide, hw]
    cases a.neg
    · simp
      omega
    · simp
  have he : Safety.floatExp a.bits = (a.ex * 2 ^ 23 + a.sig) / 2 ^ 23 := by
    unfold Safety.floatExp
    rw [BitVec.extractLsb'_toNat, hw, Nat.shiftRight_eq_div_pow]
    split <;> omega
  have hfr : (a.bits.extractLsb' 0 23).toNat = (a.ex * 2 ^ 23 + a.sig) % 2 ^ 23 := by
    rw [BitVec.extractLsb'_toNat, hw, Nat.shiftRight_zero]
    split <;> omega
  have hv : Safety.floatSig a.bits * 2 ^ (Safety.floatExp a.bits - 1) = a.mag := by
    unfold Safety.floatSig
    rw [he, hfr]
    unfold F32.mag
    by_cases hs : a.sig < 2 ^ 23
    · have h0 : a.ex = 0 := by omega
      simp only [h0]
      have : (0 * 2 ^ 23 + a.sig) / 2 ^ 23 = 0 := by omega
      rw [this]
      simp
      omega
    · have h0 : (a.ex * 2 ^ 23 + a.sig) / 2 ^ 23 = a.ex + 1 := by omega
      rw [h0, if_neg (by omega), Nat.add_sub_cancel]
      congr 1
      omega
  unfold Safety.floatValue
  rw [hmsb, ← hv]
  push_cast
  rfl

end Sys2Proof.Machine
end

