-- ==== Sys2Proof/Laws/PerInstr.lean ====
section
/-!
SUPPORT. Statements for all operations, one lemma per constructor (LAWS.json names the family): an operation's own
word is one word of its own format (spec/30_encoding.md R80, R95).
-/

namespace Sys2Proof.Laws.OwnWordWf

/-- The word is well formed: the format's length, no bit above its width. -/
def Statement (i : Instr) : Prop := wordWf i.format (encode i) = true

theorem hostReset : Statement .hostReset := rfl
theorem hostInitialize : Statement .hostInitialize := rfl
theorem hostMeasure : Statement .hostMeasure := rfl
theorem wrReset : Statement .wrReset := rfl
theorem wrInit : Statement .wrInit := rfl
theorem wrTrigger : Statement .wrTrigger := rfl
theorem dlyPoweron : Statement .dlyPoweron := rfl
theorem dlySettle : Statement .dlySettle := rfl
theorem rdStatus : Statement .rdStatus := rfl
theorem rdMeasure : Statement .rdMeasure := rfl

theorem decodeStatus (s : Byte) : Statement (.decodeStatus s) :=
  decide_eq_true s.isLt

theorem decodeFrame (b0 b1 b2 b3 b4 : Byte) : Statement (.decodeFrame b0 b1 b2 b3 b4) :=
  decide_eq_true b0.isLt

end Sys2Proof.Laws.OwnWordWf
end

