-- ==== Sys2Proof/Laws/Step.lean ====
section
/-!
SUPPORT. What a fetch and a step can do, said once.
-/

namespace Sys2Proof.Machine

variable {s t : State}

/-- What there is to do (R24, R150): a decoder's input, a host command, the response, or the selector. -/
theorem fetch_cases (s : State) :
    (∃ d rest, s.decIn = d :: rest ∧ fetch s = .word d.word.1 d.word.2 (s.setDecIn rest)) ∨
    (s.decIn = [] ∧ s.phase = .idle ∧ s.cmds = [] ∧ fetch s = .wait) ∨
    (∃ op rest, s.decIn = [] ∧ s.phase = .idle ∧ s.cmds = op :: rest ∧
      fetch s = .word .hc [op.setWidth 8] (acceptCmd op rest s)) ∨
    (s.decIn = [] ∧ s.phase = .rsp ∧ s.rspTakes = 0 ∧ fetch s = .wait) ∨
    (∃ n, s.decIn = [] ∧ s.phase = .rsp ∧ s.rspTakes = n + 1 ∧ fetch s = .deliver) ∨
    (s.decIn = [] ∧ (s.phase = .dly0 ∨ s.phase = .wr ∨ s.phase = .dly1 ∨ s.phase = .rd) ∧
      fetch s = .word .sel [s.sel] s) := by
  cases hd : s.decIn with
  | cons d rest => exact .inl ⟨d, rest, rfl, by simp [fetch, hd]⟩
  | nil =>
    cases hp : s.phase with
    | idle => cases hc : s.cmds <;> simp [fetch, fetchSequencer, hd, hp, hc]
    | rsp => cases hr : s.rspTakes <;> simp [fetch, fetchSequencer, hd, hp, hr]
    | dly0 => simp [fetch, fetchSequencer, hd, hp]
    | wr => simp [fetch, fetchSequencer, hd, hp]
    | dly1 => simp [fetch, fetchSequencer, hd, hp]
    | rd => simp [fetch, fetchSequencer, hd, hp]

theorem hostWord_eq_three {op : HostWord} (h0 : op ≠ 0) (h1 : op ≠ 1) (h2 : op ≠ 2) : op = 3 := by
  bv_omega

/-- The four host command words (R81, R92). -/
theorem decode_hc (op : HostWord) :
    decode .hc [op.setWidth 8] =
      if op = 0 then .ok (.hostReset, [])
      else if op = 1 then .ok (.hostInitialize, [])
      else if op = 2 then .ok (.hostMeasure, [])
      else .error .reservedOp := by
  revert op
  decide

/-- The micro-operation that `cur_op` and `phase` select (R91). -/
theorem decode_sel (s : State) :
    decode .sel [s.sel] =
      match s.curOp, s.phase with
      | .reset, .wr => .ok (.wrReset, [])
      | .init, .wr => .ok (.wrInit, [])
      | .measure, .wr => .ok (.wrTrigger, [])
      | .init, .dly0 => .ok (.dlyPoweron, [])
      | _, .dly1 => .ok (.dlySettle, [])
      | .init, .rd => .ok (.rdStatus, [])
      | .measure, .rd => .ok (.rdMeasure, [])
      | _, _ => .error .selectsNothing := by
  unfold State.sel
  cases s.curOp <;> cases s.phase <;> rfl

/-- Everything a step can do: serve a decoder, hold, hand over the response, accept one of the four commands, or
perform the selected micro-operation (R150 to R159, R164). -/
theorem step_cases (h : step s = .next t) :
    (∃ b rest, s.decIn = .status b :: rest ∧ exec (.decodeStatus b) (s.setDecIn rest) = .next t) ∨
    (∃ b0 b1 b2 b3 b4 rest, s.decIn = .frame b0 b1 b2 b3 b4 :: rest ∧
      exec (.decodeFrame b0 b1 b2 b3 b4) (s.setDecIn rest) = .next t) ∨
    (s.decIn = [] ∧ t = s ∧ ((s.phase = .idle ∧ s.cmds = []) ∨ (s.phase = .rsp ∧ s.rspTakes = 0))) ∨
    (∃ n, s.decIn = [] ∧ s.phase = .rsp ∧ s.rspTakes = n + 1 ∧ t = takeResponse s) ∨
    (∃ op rest, s.decIn = [] ∧ s.phase = .idle ∧ s.cmds = op :: rest ∧
      ((op = 0 ∧ exec .hostReset (acceptCmd op rest s) = .next t) ∨
        (op = 1 ∧ exec .hostInitialize (acceptCmd op rest s) = .next t) ∨
        (op = 2 ∧ exec .hostMeasure (acceptCmd op rest s) = .next t) ∨
        (op = 3 ∧ t = raise .illegalOp (acceptCmd op rest s)))) ∨
    (s.decIn = [] ∧ ∃ i, exec i s = .next t ∧
      ((s.curOp = .reset ∧ s.phase = .wr ∧ i = .wrReset) ∨
        (s.curOp = .init ∧ s.phase = .wr ∧ i = .wrInit) ∨
        (s.curOp = .measure ∧ s.phase = .wr ∧ i = .wrTrigger) ∨
        (s.curOp = .init ∧ s.phase = .dly0 ∧ i = .dlyPoweron) ∨
        (s.phase = .dly1 ∧ i = .dlySettle) ∨
        (s.curOp = .init ∧ s.phase = .rd ∧ i = .rdStatus) ∨
        (s.curOp = .measure ∧ s.phase = .rd ∧ i = .rdMeasure))) := by
  unfold step at h
  obtain ⟨d, rest, hd, hf⟩ | ⟨hd, hp, hc, hf⟩ | ⟨op, rest, hd, hp, hc, hf⟩ | ⟨hd, hp, hr, hf⟩ | ⟨n, hd, hp, hr, hf⟩ |
    ⟨hd, hp, hf⟩ := fetch_cases s <;> rw [hf] at h
  · cases d with
    | status b => exact .inl ⟨b, rest, hd, h⟩
    | frame b0 b1 b2 b3 b4 => exact .inr (.inl ⟨b0, b1, b2, b3, b4, rest, hd, h⟩)
  · cases h
    exact .inr (.inr (.inl ⟨hd, rfl, .inl ⟨hp, hc⟩⟩))
  · refine .inr (.inr (.inr (.inr (.inl ⟨op, rest, hd, hp, hc, ?_⟩))))
    simp only [decode_hc] at h
    by_cases h0 : op = 0
    · simp only [h0, if_true] at h ⊢
      exact .inl ⟨trivial, h⟩
    by_cases h1 : op = 1
    · simp only [h1] at h ⊢
      exact .inr (.inl ⟨trivial, h⟩)
    by_cases h2 : op = 2
    · simp only [h2] at h ⊢
      exact .inr (.inr (.inl ⟨trivial, h⟩))
    · simp only [h0, h1, h2, if_false, rejectWord] at h
      cases h
      exact .inr (.inr (.inr ⟨hostWord_eq_three h0 h1 h2, rfl⟩))
  · cases h
    exact .inr (.inr (.inl ⟨hd, rfl, .inr ⟨hp, hr⟩⟩))
  · cases h
    exact .inr (.inr (.inr (.inl ⟨n, hd, hp, hr, rfl⟩)))
  · refine .inr (.inr (.inr (.inr (.inr ⟨hd, ?_⟩))))
    simp only [decode_sel] at h
    obtain hp | hp | hp | hp := hp <;> cases ho : s.curOp <;> simp only [hp, ho, rejectWord] at h <;>
      first
        | exact ⟨_, h, by simp [hp]⟩
        | cases h

/-! ### The step of each phase, forward -/

/-- The step that accepts a host command (R151). -/
theorem step_command {op : HostWord} {rest : List HostWord} (hd : s.decIn = []) (hp : s.phase = .idle)
    (hc : s.cmds = op :: rest) :
    step s =
      if op = 0 then exec .hostReset (acceptCmd op rest s)
      else if op = 1 then exec .hostInitialize (acceptCmd op rest s)
      else if op = 2 then exec .hostMeasure (acceptCmd op rest s)
      else .next (raise .illegalOp (acceptCmd op rest s)) := by
  simp only [step, fetch, fetchSequencer, hd, hp, hc, decode_hc]
  by_cases h0 : op = 0
  · simp [h0]
  by_cases h1 : op = 1
  · simp [h1]
  by_cases h2 : op = 2
  · simp [h2]
  · simp only [h0, h1, h2, if_false, rejectWord]

/-- Without a command the block holds its state in `P_IDLE`. -/
theorem step_no_command (hd : s.decIn = []) (hp : s.phase = .idle) (hc : s.cmds = []) : step s = .next s := by
  simp only [step, fetch, fetchSequencer, hd, hp, hc]

/-- The step of `P_RSP` once the host takes the response (R159). -/
theorem step_response {n : Nat} (hd : s.decIn = []) (hp : s.phase = .rsp) (hr : s.rspTakes = n + 1) :
    step s = .next (takeResponse s) := by
  simp only [step, fetch, fetchSequencer, hd, hp, hr]

/-- Until the host takes the response the block holds its state in `P_RSP`. -/
theorem step_no_take (hd : s.decIn = []) (hp : s.phase = .rsp) (hr : s.rspTakes = 0) : step s = .next s := by
  simp only [step, fetch, fetchSequencer, hd, hp, hr]

/-- The step of `P_DLY0` (R155). -/
theorem step_dly0 (hd : s.decIn = []) (hp : s.phase = .dly0) (hc : s.curOp = .init) :
    step s = exec .dlyPoweron s := by
  have h := decode_sel s
  simp only [hp, hc] at h
  simp only [step, fetch, fetchSequencer, hd, hp, h]

/-- The step of `P_WR` (R156). -/
theorem step_wr (hd : s.decIn = []) (hp : s.phase = .wr) :
    step s = exec (match s.curOp with | .reset => .wrReset | .init => .wrInit | .measure => .wrTrigger) s := by
  have h := decode_sel s
  cases hc : s.curOp <;> simp only [hp, hc] at h <;> simp only [step, fetch, fetchSequencer, hd, hp, h]

/-- The step of `P_DLY1` (R157). -/
theorem step_dly1 (hd : s.decIn = []) (hp : s.phase = .dly1) : step s = exec .dlySettle s := by
  have h := decode_sel s
  cases hc : s.curOp <;> simp only [hp, hc] at h <;> simp only [step, fetch, fetchSequencer, hd, hp, h]

/-- The step of `P_RD` (R158). -/
theorem step_rd (hd : s.decIn = []) (hp : s.phase = .rd) (hc : s.curOp ≠ .reset) :
    step s = exec (if s.curOp = .init then .rdStatus else .rdMeasure) s := by
  have h := decode_sel s
  cases ho : s.curOp
  · exact absurd ho hc
  · simp only [hp, ho] at h
    simp only [step, fetch, fetchSequencer, hd, hp, h, if_true]
  · simp only [hp, ho] at h
    simp [step, fetch, fetchSequencer, hd, hp, h]

/-- The step that serves the parser used alone. -/
theorem step_status {b : Byte} {rest : List DecInput} (hd : s.decIn = .status b :: rest) :
    step s = exec (.decodeStatus b) (s.setDecIn rest) := by
  simp only [step, fetch, hd, DecInput.word, decode]

/-- The step that serves the frame decoder used alone. -/
theorem step_frame {b0 b1 b2 b3 b4 : Byte} {rest : List DecInput}
    (hd : s.decIn = .frame b0 b1 b2 b3 b4 :: rest) :
    step s = exec (.decodeFrame b0 b1 b2 b3 b4) (s.setDecIn rest) := by
  simp only [step, fetch, hd, DecInput.word, decode]

end Sys2Proof.Machine
end

