-- ==== Sys2Proof/Tests/Slice0.lean ====
section
/-!
SUPPORT. Tests: ill-formed words, words written out from the encodings of spec/30_encoding.md, one step of each
operation with the results of spec/95_test_vectors.md, and for each obligation with hypotheses a witness that
meets them.
-/

namespace Sys2Proof.Tests

open Sys2Proof Sys2Proof.Machine Sys2Proof.Safety

/-! ### Small states -/

/-- The state after reset, but for the three registers that say where the sequencer stands. -/
def stateAt (st : SeqState) (op : HostOp) (p : Phase) : State :=
  { State.reset with st := st, curOp := op, phase := p }

/-- `RdOk` with these bytes. -/
def rdOk (l : List Byte) (h : l.length ≤ 7 := by decide) : RdAnswer := .ok ⟨l, h⟩

/-- `P_WR` of an operation, with one answer to come. -/
def atWr (st : SeqState) (op : HostOp) (a : WrAnswer) : State := { stateAt st op .wr with wrAnswers := [a] }

/-- `P_RD` of an operation, with one answer to come. -/
def atRd (st : SeqState) (op : HostOp) (a : RdAnswer) : State := { stateAt st op .rd with rdAnswers := [a] }

/-- `P_IDLE` with commands and with every answer of one operation. -/
def atIdle (st : SeqState) (cmds : List HostWord) (w : WrAnswer) (r : RdAnswer) : State :=
  { stateAt st .reset .idle with cmds := cmds, wrAnswers := [w], rdAnswers := [r], dlyDones := 2, rspTakes := 1 }

/-- `P_RSP`, with the response about to be taken. -/
def atRsp (st : SeqState) (op : HostOp) (r : ResultCode) (sv mv : Bool) : State :=
  { stateAt st op .rsp with resultReg := r, statusValid := sv, measValid := mv, rspTakes := 1 }

/-- The next state, if there is one. -/
def nextOf (o : Host.Outcome State Fault Refusal) : Option State :=
  match o with
  | .next s => some s
  | .fault _ => none
  | .refused _ => none

theorem next_of {o : Host.Outcome State Fault Refusal} {t : State} (h : nextOf o = some t) : o = .next t := by
  cases o <;> cases h
  rfl

/-- What the host and the bus see of a step: `st`, `phase`, the result and the newest transaction. -/
def seen (o : Host.Outcome State Fault Refusal) : Option (SeqState × Phase × ResultCode × Option Event) :=
  (nextOf o).map fun t => (t.st, t.phase, t.resultReg, t.trace.head?)

/-! ### Ill-formed words (R80, R95) -/

theorem test_wf_length_short : wordWf .w3 [0xE1, 0x08] = false := by decide
theorem test_wf_length_long : wordWf .w1 [0xBA, 0x00] = false := by decide
theorem test_wf_stray_hc : wordWf .hc [0x04] = false := by decide
theorem test_wf_stray_sel : wordWf .sel [0x20] = false := by decide
theorem test_wf_accepts : wordWf .hc [0x03] = true ∧ wordWf .sel [0x1F] = true ∧ wordWf .s8 [0xFF] = true := by decide

/-- The decoder rejects by name. -/
theorem test_decode_rejects :
    decode .hc [0x03] = .error .reservedOp ∧ decode .hc [0x04] = .error .strayBits ∧
    decode .sel [0x22] = .error .strayBits ∧ decode .sel [0x04] = .error .selectsNothing ∧
    decode .w1 [0xBB] = .error .notACommandFrame ∧ decode .w3 [0xE1, 0x08, 0x01] = .error .notACommandFrame ∧
    decode .w3 [0xE1, 0x08] = .error .truncated ∧ decode .d40 [1, 2, 3, 4] = .error .truncated := by decide

/-! ### Words written out from the encodings -/

/-- Format `HC`: the op code in bits 1:0 (R81). -/
theorem test_decode_host :
    decode .hc [0b00] = .ok (.hostReset, []) ∧ decode .hc [0b01] = .ok (.hostInitialize, []) ∧
    decode .hc [0b10] = .ok (.hostMeasure, []) := by decide

/-- Formats `W1` and `W3`, bit by bit (R82, R83). -/
theorem test_decode_frames :
    decode .w1 [0b10111010] = .ok (.wrReset, []) ∧
    decode .w3 [0b11100001, 0b00001000, 0b00000000] = .ok (.wrInit, []) ∧
    decode .w3 [0b10101100, 0b00110011, 0b00000000] = .ok (.wrTrigger, []) := by decide

/-- `SEL`: `cur_op` in bits 4:3, `phase` in bits 2:0 (R91, R23, R24). -/
theorem test_decode_sel :
    decode .sel [0b00010] = .ok (.wrReset, []) ∧ decode .sel [0b01010] = .ok (.wrInit, []) ∧
    decode .sel [0b10010] = .ok (.wrTrigger, []) ∧ decode .sel [0b01001] = .ok (.dlyPoweron, []) ∧
    decode .sel [0b01011] = .ok (.dlySettle, []) ∧ decode .sel [0b10011] = .ok (.dlySettle, []) ∧
    decode .sel [0b01100] = .ok (.rdStatus, []) ∧ decode .sel [0b10100] = .ok (.rdMeasure, []) := by decide

/-- Formats `R1`, `R6`, `S8`, `D40` (R84 to R87): every pattern is one. -/
theorem test_decode_received :
    decode .r1 [0x18] = .ok (.rdStatus, []) ∧
    decode .r6 [0x1C, 0x19, 0x99, 0x9A, 0x66, 0x66] = .ok (.rdMeasure, []) ∧
    decode .s8 [0x98] = .ok (.decodeStatus 0x98, []) ∧
    decode .d40 [0x19, 0x99, 0x9A, 0x66, 0x66] = .ok (.decodeFrame 0x19 0x99 0x9A 0x66 0x66, []) := by decide

/-- The opcode table's own words, a frame's first byte in its highest bits. -/
theorem test_table_words :
    decodeTableWord 2 0 = some .hostReset ∧ decodeTableWord 8 1 = some .hostInitialize ∧
    decodeTableWord 8 2 = some .hostMeasure ∧ decodeTableWord 8 186 = some .wrReset ∧
    decodeTableWord 24 14747648 = some .wrInit ∧ decodeTableWord 24 11285248 = some .wrTrigger ∧
    decodeTableWord 8 0x09 = some .dlyPoweron ∧ decodeTableWord 8 0x03 = some .dlySettle ∧
    decodeTableWord 8 0x0C = some .rdStatus ∧ decodeTableWord 48 0 = some .rdMeasure ∧
    decodeTableWord 8 0x98 = some (.decodeStatus 0x98) ∧
    decodeTableWord 40 0x19999A6666 = some (.decodeFrame 0x19 0x99 0x9A 0x66 0x66) := by decide

/-- The step after `withFetchWord` runs the word: `RESET`, `WR_INIT`, `RD_MEASURE`, `DECODE_STATUS`. -/
theorem test_fetch_word :
    seen (step (State.reset.withFetchWord 2 0)) =
      some (.idle, .wr, .ok, some (.memWrite 0x38 [0xBA])) ∧
    seen (step (State.reset.withFetchWord 24 14747648)) = some (.idle, .dly1, .ok, some (.delay 75)) ∧
    seen (step (State.reset.withFetchWord 48 0x980000000000)) =
      some (.ready, .rsp, .deviceBusy, some (.rdAnswer (rdOk [0x98, 0, 0, 0, 0, 0]))) ∧
    seen (step (State.reset.withFetchWord 8 0x98)) =
      some (.idle, .idle, .ok, some (.statusDecoded 0x98 ⟨true, .normal, true⟩)) := by
  refine ⟨?_, ?_, ?_, ?_⟩ <;> decide

/-! ### One step of each operation -/

/-- O2: `RESET` from `Ready` writes `BA`; `st` stays until the answer. -/
theorem test_hostReset :
    seen (exec .hostReset (stateAt .ready .measure .idle)) =
      some (.ready, .wr, .ok, some (.memWrite 0x38 [0xBA])) := by decide

/-- O4: `INITIALIZE` begins with the delay of 40 ms. -/
theorem test_hostInitialize :
    seen (exec .hostInitialize (stateAt .idle .reset .idle)) =
      some (.initializing, .dly0, .ok, some (.delay 40)) := by decide

/-- O11: `MEASURE` in `Ready` writes the trigger frame. -/
theorem test_hostMeasure_ready :
    seen (exec .hostMeasure (stateAt .ready .init .idle)) =
      some (.measuring, .wr, .ok, some (.memWrite 0x38 [0xAC, 0x33, 0x00])) := by decide

/-- O10: `MEASURE` in `Idle` touches nothing. -/
theorem test_hostMeasure_idle :
    seen (exec .hostMeasure (stateAt .idle .reset .idle)) = some (.idle, .rsp, .notReady, none) := by decide

/-- O20: op code 3. -/
theorem test_reservedOp :
    seen (step { stateAt .ready .reset .idle with cmds := [3] }) =
      some (.ready, .rsp, .illegalOp, some (.cmd 3)) := by decide

/-- O1. -/
theorem test_wrReset_ok :
    seen (exec .wrReset (atWr .ready .reset .ok)) = some (.idle, .rsp, .ok, some (.wrAnswer .ok)) := by decide

/-- O3. -/
theorem test_wrReset_err :
    seen (exec .wrReset (atWr .ready .reset .err)) =
      some (.idle, .rsp, .transportError, some (.wrAnswer .err)) := by decide

theorem test_wrInit_ok :
    seen (exec .wrInit (atWr .initializing .init .ok)) = some (.initializing, .dly1, .ok, some (.delay 75)) := by
  decide

/-- O5. -/
theorem test_wrInit_err :
    seen (exec .wrInit (atWr .initializing .init .err)) =
      some (.idle, .rsp, .transportError, some (.wrAnswer .err)) := by decide

theorem test_wrTrigger_ok :
    seen (exec .wrTrigger (atWr .measuring .measure .ok)) = some (.measuring, .dly1, .ok, some (.delay 75)) := by
  decide

/-- O11. -/
theorem test_wrTrigger_err :
    seen (exec .wrTrigger (atWr .measuring .measure .err)) =
      some (.ready, .rsp, .transportError, some (.wrAnswer .err)) := by decide

theorem test_dlyPoweron :
    seen (exec .dlyPoweron { stateAt .initializing .init .dly0 with dlyDones := 1 }) =
      some (.initializing, .wr, .ok, some (.memWrite 0x38 [0xE1, 0x08, 0x00])) := by decide

theorem test_dlySettle_init :
    seen (exec .dlySettle { stateAt .initializing .init .dly1 with dlyDones := 1 }) =
      some (.initializing, .rd, .ok, some (.memRead 0x38 1)) := by decide

theorem test_dlySettle_measure :
    seen (exec .dlySettle { stateAt .measuring .measure .dly1 with dlyDones := 1 }) =
      some (.measuring, .rd, .ok, some (.memRead 0x38 6)) := by decide

/-- O8, and the second byte ignored: `INITIALIZE` tests neither flag. -/
theorem test_rdStatus_ok :
    (nextOf (exec .rdStatus (atRd .initializing .init (rdOk [0x80, 0x55])))).map
        (fun t => (t.st, t.response, t.rx)) =
      some (.ready, ⟨.ok, some ⟨0x80, true, false, .normal⟩, none⟩, ⟨0x80, 0, 0, 0, 0, 0⟩) := by decide

/-- O7. -/
theorem test_rdStatus_short :
    (nextOf (exec .rdStatus (atRd .initializing .init (rdOk [])))).map (fun t => (t.st, t.response)) =
      some (.idle, ⟨.shortRead, none, none⟩) := by decide

/-- O17. -/
theorem test_rdMeasure_ok :
    (nextOf (exec .rdMeasure (atRd .measuring .measure (rdOk [0x1C, 0x19, 0x99, 0x9A, 0x66, 0x66])))).map
        (fun t => (t.st, t.response)) =
      some (.ready, ⟨.ok, some ⟨0x1C, false, true, .normal⟩, some ⟨0x19999, 0xA6666, 0x411FFFC4, 0x429FFFF6⟩⟩) := by
  decide

/-- O15, O16, O19, O12: the order of the tests of R187. -/
theorem test_rdMeasure_failures :
    ([rdOk [0x10, 0x19, 0x99, 0x9A, 0x66, 0x66], rdOk [0x80, 0, 0, 0, 0, 0], rdOk [0x98, 0x00], .err].map fun a =>
        (nextOf (exec .rdMeasure (atRd .measuring .measure a))).map State.response) =
      [some ⟨.notCalibrated, some ⟨0x10, false, false, .normal⟩, none⟩,
        some ⟨.deviceBusy, some ⟨0x80, true, false, .normal⟩, none⟩,
        some ⟨.shortRead, none, none⟩, some ⟨.transportError, none, none⟩] := by decide

/-- Section 2 of the vectors: the corner cases, and the source's examples S2 to S4. -/
theorem test_decodeStatus :
    ([0x00, 0x88, 0x28, 0x7F, 0x80, 0xFF, 0x10, 0x07, 0x1C, 0x98, 0x40, 0x60, 0x77].map parseStatus) =
      [⟨false, .normal, false⟩, ⟨true, .normal, true⟩, ⟨false, .cyclic, true⟩, ⟨false, .command, true⟩,
        ⟨true, .normal, false⟩, ⟨true, .command, true⟩, ⟨false, .normal, false⟩, ⟨false, .normal, false⟩,
        ⟨false, .normal, true⟩, ⟨true, .normal, true⟩, ⟨false, .command, false⟩, ⟨false, .command, false⟩,
        ⟨false, .command, false⟩] := by decide

/-- Section 3 of the vectors: S5, the nibbles of `b2`, and the rows around the onset of rounding. -/
theorem test_decodeFrame :
    parseFrame 0x19 0x99 0x9A 0x66 0x66 = ⟨0x19999, 0xA6666, 0x411FFFC4, 0x429FFFF6⟩ ∧
    parseFrame 0x00 0x00 0x10 0x00 0x00 = ⟨0x00001, 0x00000, 0x38C80000, 0xC2480000⟩ ∧
    parseFrame 0x00 0x00 0x01 0x00 0x00 = ⟨0x00000, 0x10000, 0x00000000, 0xC2160000⟩ ∧
    parseFrame 0xA3 0xD7 0x0A 0x3D 0x70 = ⟨0xA3D70, 0xA3D70, 0x427FFFF0, 0x429BFFF0⟩ ∧
    parseFrame 0xA3 0xD7 0x1A 0x3D 0x71 = ⟨0xA3D71, 0xA3D71, 0x42800004, 0x429C0008⟩ := by decide

/-- More rows of section 3: mixed bytes and the values next to the largest. -/
theorem test_decodeFrame_more :
    parseFrame 0x12 0x34 0x56 0x78 0x9A = ⟨0x12345, 0x6789A, 0x40E38DE8, 0x41F71C28⟩ ∧
    parseFrame 0x80 0x00 0x05 0x99 0x9A = ⟨0x80000, 0x5999A, 0x42480000, 0x41A00028⟩ ∧
    parseFrame 0x7F 0xFF 0xF5 0xFF 0xFF = ⟨0x7FFFF, 0x5FFFF, 0x4247FFE7, 0x41C7FF9C⟩ ∧
    parseFrame 0xFF 0xFF 0xEF 0xFF 0xFE = ⟨0xFFFFE, 0xFFFFE, 0x42C7FFE7, 0x4315FFE7⟩ := by decide

/-! ### Witnesses: encoding and numbers -/

theorem witness_DecodeReadsOnlyTableWords :
    decode .hc [0x02, 0x07] = .ok (.hostMeasure, [0x07]) ∧ decode .sel [0x1B, 0x07] = .ok (.dlySettle, [0x07]) ∧
    decode .r1 [0xFF, 0x07] = .ok (.rdStatus, [0x07]) ∧ decode .r6 [1, 2, 3, 4, 5, 6, 7] = .ok (.rdMeasure, [7]) := by
  decide

theorem witness_RawFieldsOfAFrame :
    parseFrame 0x19 0x99 0x9A 0x66 0x66 = ⟨0x19999, 0xA6666, 0x411FFFC4, 0x429FFFF6⟩ := by decide

theorem witness_FloatsExactBelowRounding :
    (0xA3D70 : Raw).toNat ≤ 0xA3D70 ∧ (0x00000 : Raw).toNat ≤ 0xA3D70 := by decide

theorem witness_FloatsAreMonotone : (0xA3D70 : Raw).toNat ≤ (0xA3D71 : Raw).toNat := by decide

/-! ### Witnesses: operations -/

theorem witness_ResetAndInitializeAreAccepted :
    (stateAt .idle .reset .idle).phase = .idle ∧ (stateAt .ready .measure .idle).phase = .idle := by decide

theorem witness_MeasureIsAcceptedInReady :
    (stateAt .ready .init .idle).phase = .idle ∧ (stateAt .ready .init .idle).st = .ready := by decide

theorem witness_MeasureIsRefusedUnlessReady :
    (stateAt .idle .reset .idle).phase = .idle ∧ (stateAt .idle .reset .idle).st ≠ .ready := by decide

theorem witness_CommandsWaitOutsideIdle :
    (atWr .idle .reset .ok).phase ≠ .idle ∧
    ∃ t : State, step (atWr .idle .reset .ok) = .next t :=
  ⟨by decide, _, rfl⟩

theorem witness_WriteAnswersAreTaken :
    ∀ op : HostOp, ∀ a : WrAnswer, (atWr .idle op a).phase = .wr ∧ (atWr .idle op a).wrAnswers = a :: [] ∧
      (atWr .idle op a).curOp = op := by
  intro op a
  exact ⟨rfl, rfl, rfl⟩

theorem witness_PowerOnDelayLeadsToTheWrite :
    (stateAt .initializing .init .dly0).phase = .dly0 ∧ (stateAt .initializing .init .dly0).curOp = .init ∧
    { stateAt .initializing .init .dly0 with dlyDones := 1 }.dlyDones = 0 + 1 := by decide

theorem witness_SettlingDelayLeadsToTheRead :
    ∀ op : HostOp, { stateAt .measuring op .dly1 with dlyDones := 1 }.phase = .dly1 ∧
      { stateAt .measuring op .dly1 with dlyDones := 1 }.dlyDones = 0 + 1 ∧
      { stateAt .measuring op .dly1 with dlyDones := 1 }.curOp = op := by
  intro op
  exact ⟨rfl, rfl, rfl⟩

theorem witness_FailedReadEndsTheOperation :
    ∀ op : HostOp, (atRd .measuring op .err).phase = .rd ∧ (atRd .measuring op .err).rdAnswers = .err :: [] ∧
      (atRd .measuring op .err).curOp = op := by
  intro op
  exact ⟨rfl, rfl, rfl⟩

/-- At the boundaries: no byte for `INITIALIZE`, five bytes for `MEASURE`. -/
theorem witness_ShortReadEndsTheOperation :
    (atRd .initializing .init (rdOk [])).phase = .rd ∧ (atRd .initializing .init (rdOk [])).curOp = .init ∧
    (atRd .initializing .init (rdOk [])).rdAnswers = [.ok ⟨[], by decide⟩] ∧ ([] : List Byte).length < 1 ∧
    (atRd .measuring .measure (rdOk [8, 0, 0, 0, 0])).phase = .rd ∧
    (atRd .measuring .measure (rdOk [8, 0, 0, 0, 0])).curOp = .measure ∧
    (atRd .measuring .measure (rdOk [8, 0, 0, 0, 0])).rdAnswers = [.ok ⟨[8, 0, 0, 0, 0], by decide⟩] ∧
    ([8, 0, 0, 0, 0] : List Byte).length < 6 := by decide

theorem witness_StatusReadCompletes :
    (atRd .initializing .init (rdOk [0x18])).phase = .rd ∧ (atRd .initializing .init (rdOk [0x18])).curOp = .init ∧
    (atRd .initializing .init (rdOk [0x18])).rdAnswers = [.ok ⟨[0x18], by decide⟩] := by decide

/-- One status byte for each of the three ends, and the longest answer. -/
theorem witness_MeasureReadCompletes :
    (atRd .measuring .measure (rdOk [0x98, 1, 2, 3, 4, 5, 6])).phase = .rd ∧
    (atRd .measuring .measure (rdOk [0x98, 1, 2, 3, 4, 5, 6])).curOp = .measure ∧
    (atRd .measuring .measure (rdOk [0x98, 1, 2, 3, 4, 5, 6])).rdAnswers =
      [.ok ⟨0x98 :: 1 :: 2 :: 3 :: 4 :: 5 :: [6], by decide⟩] ∧
    (0x98 : Byte).getLsbD 7 = true ∧
    ((0x10 : Byte).getLsbD 7 = false ∧ (0x10 : Byte).getLsbD 3 = false) ∧
    ((0x1C : Byte).getLsbD 7 = false ∧ (0x1C : Byte).getLsbD 3 = true) := by decide

/-- After reset no micro-operation is selected; and `P_DLY1` with `cur_op` `RESET`, before the answer and at it. -/
theorem witness_UnselectedMicroOperationsStop :
    ¬(State.reset.curOp = .reset ∧ State.reset.phase = .wr) ∧
    ¬(State.reset.curOp = .init ∧ State.reset.phase = .wr) ∧
    ¬(State.reset.curOp = .measure ∧ State.reset.phase = .wr) ∧
    ¬(State.reset.curOp = .init ∧ State.reset.phase = .dly0) ∧ State.reset.phase ≠ .dly1 ∧
    ¬(State.reset.curOp = .init ∧ State.reset.phase = .rd) ∧
    ¬(State.reset.curOp = .measure ∧ State.reset.phase = .rd) ∧
    ((stateAt .idle .reset .dly1).phase = .dly1 ∧ (stateAt .idle .reset .dly1).curOp = .reset ∧
      (stateAt .idle .reset .dly1).dlyDones = 0) ∧
    { stateAt .idle .reset .dly1 with dlyDones := 1 }.dlyDones = 0 + 1 := by decide

theorem witness_ReservedOpCodeIsAnsweredIllegalOp :
    (atIdle .ready [3] .ok .err).decIn = [] ∧ (atIdle .ready [3] .ok .err).phase = .idle ∧
    (atIdle .ready [3] .ok .err).cmds = 3 :: [] := by decide

/-- With no payload part, with the status, and with both. -/
theorem witness_ResponseIsTaken :
    ∀ sv mv : Bool, (atRsp .ready .measure .ok sv mv).decIn = [] ∧ (atRsp .ready .measure .ok sv mv).phase = .rsp ∧
      (atRsp .ready .measure .ok sv mv).rspTakes = 0 + 1 := by decide

/-! ### Witnesses: the step -/

theorem witness_StepRunsTheDecodedInstruction :
    ((atIdle .ready [2] .ok .err).decIn = [] ∧ (atIdle .ready [2] .ok .err).phase = .idle ∧
      (atIdle .ready [2] .ok .err).cmds = 2 :: [] ∧
      decode .hc [(2 : HostWord).setWidth 8] = .ok (.hostMeasure, [])) ∧
    ((atRd .measuring .measure .err).decIn = [] ∧ (atRd .measuring .measure .err).phase = .rd ∧
      decode .sel [((atRd .measuring .measure .err).curOp.code ++
        (atRd .measuring .measure .err).phase.code).setWidth 8] = .ok (.rdMeasure, [])) ∧
    decode .s8 [0x98] = .ok (.decodeStatus 0x98, []) ∧
    decode .d40 [1, 2, 3, 4, 5] = .ok (.decodeFrame 1 2 3 4 5, []) := by decide

/-- A state that meets the state rule, in each phase. -/
theorem stateRule_witnesses :
    StateRule (stateAt .ready .reset .idle) ∧ StateRule (stateAt .initializing .init .dly0) ∧
    StateRule (stateAt .measuring .measure .wr) ∧ StateRule (stateAt .measuring .measure .dly1) ∧
    StateRule (stateAt .initializing .init .rd) ∧ StateRule (stateAt .ready .measure .rsp) := by
  refine ⟨?_, ?_, ?_, ?_, ?_, ?_⟩ <;> constructor <;> decide

theorem witness_BlockWaitsForItsEvent :
    StateRule (stateAt .ready .reset .idle) ∧ StateRule (stateAt .initializing .init .dly0) ∧
    StateRule (stateAt .measuring .measure .wr) ∧ StateRule (stateAt .measuring .measure .dly1) ∧
    StateRule (stateAt .initializing .init .rd) ∧ StateRule (stateAt .ready .measure .rsp) ∧
    ∀ st op p, (stateAt st op p).decIn = [] ∧ (stateAt st op p).phase = p ∧ (stateAt st op p).cmds = [] ∧
      (stateAt st op p).dlyDones = 0 ∧ (stateAt st op p).wrAnswers = [] ∧ (stateAt st op p).rdAnswers = [] ∧
      (stateAt st op p).rspTakes = 0 := by
  obtain ⟨h1, h2, h3, h4, h5, h6⟩ := stateRule_witnesses
  exact ⟨h1, h2, h3, h4, h5, h6, fun _ _ _ => ⟨rfl, rfl, rfl, rfl, rfl, rfl, rfl⟩⟩

/-- A state in the read of a `MEASURE` that is about to end with `OK`. -/
def measured : State :=
  { atRd .measuring .measure (rdOk [0x08, 0, 0, 0, 0, 0]) with
    trace := [.memRead 0x38 6, .dlyDone, .delay 75, .wrAnswer .ok, .memWrite 0x38 [0xAC, 0x33, 0x00], .cmd 2] }

theorem measured_rule : StateRule measured := by constructor <;> decide

theorem measured_steps : ∃ t : State, step measured = .next t :=
  ⟨_, next_of (t := (nextOf (step measured)).getD State.reset) (by decide)⟩

theorem witness_StepKeepsTheStateRule : StateRule measured ∧ ∃ t : State, step measured = .next t :=
  ⟨measured_rule, measured_steps⟩

/-- Entering the response, and leaving it. -/
theorem witness_StepKeepsTheResponseRule :
    (StateRule measured ∧ ResponseRule measured ∧ ∃ t : State, step measured = .next t) ∧
    StateRule (atRsp .ready .measure .shortRead false false) ∧
    ResponseRule (atRsp .ready .measure .shortRead false false) := by
  refine ⟨⟨measured_rule, ?_, measured_steps⟩, ?_, ?_⟩
  · constructor <;> intro h <;> cases h
  · constructor <;> decide
  · constructor
    · intro _
      rfl
    all_goals decide

theorem witness_StepKeepsRequestsLegal :
    (∀ e ∈ measured.trace, legalRequest e) ∧ ∃ t : State, step measured = .next t :=
  ⟨by simp [measured, legalRequest], measured_steps⟩

theorem witness_StepKeepsTheOrder :
    StateRule measured ∧ OrderRule measured ∧ ∃ t : State, step measured = .next t :=
  ⟨measured_rule, ⟨[], rfl⟩, measured_steps⟩

theorem witness_StepNeverStops : StateRule measured := measured_rule

/-- Two states that differ in every register that reset leaves without a value. -/
theorem witness_NoStaleRegisterIsRead :
    SameToHost (atIdle .ready [2] .ok .err)
      { atIdle .ready [2] .ok .err with
        curOp := .init, rx := ⟨1, 2, 3, 4, 5, 6⟩, resultReg := .shortRead, statusValid := true, measValid := true,
        statusRaw := 7, busy := true, calibrated := true, mode := .command, humRaw := 8, tempRaw := 9,
        humidityPct := 10, temperatureC := 11 } ∧
    ∃ t : State, step (atIdle .ready [2] .ok .err) = .next t := by
  refine ⟨?_, _, next_of (t := (nextOf (step (atIdle .ready [2] .ok .err))).getD State.reset) (by decide)⟩
  constructor <;> decide

/-- Both ways into `Ready`, and the way into `Measuring`. -/
theorem witness_ReadyOnlyByInitialize :
    (StateRule measured ∧ measured.st ≠ .ready ∧ ∃ t : State, step measured = .next t ∧ t.st = .ready) ∧
    (StateRule (atRd .initializing .init (rdOk [0x18])) ∧
      ∃ t : State, step (atRd .initializing .init (rdOk [0x18])) = .next t ∧ t.st = .ready) ∧
    (StateRule (atIdle .ready [2] .ok .err) ∧ (atIdle .ready [2] .ok .err).st ≠ .measuring ∧
      ∃ t : State, step (atIdle .ready [2] .ok .err) = .next t ∧ t.st = .measuring) := by
  refine ⟨⟨measured_rule, by decide, (nextOf (step measured)).getD State.reset, next_of (by decide), by decide⟩,
    ⟨?_, (nextOf (step (atRd .initializing .init (rdOk [0x18])))).getD State.reset, next_of (by decide), by decide⟩,
    ?_, by decide, (nextOf (step (atIdle .ready [2] .ok .err))).getD State.reset, next_of (by decide), by decide⟩
  · constructor <;> decide
  · constructor <;> decide

/-! ### Witnesses: whole operations -/

/-- One state with everything that an operation can need, for each command and each answer. -/
theorem atIdle_has (st : SeqState) (op : HostWord) (w : WrAnswer) (r : RdAnswer) :
    (atIdle st [op] w r).decIn = [] ∧ (atIdle st [op] w r).phase = .idle ∧ (atIdle st [op] w r).st = st ∧
    (atIdle st [op] w r).cmds = op :: [] ∧ (atIdle st [op] w r).wrAnswers = w :: [] ∧
    (atIdle st [op] w r).rdAnswers = r :: [] ∧ (atIdle st [op] w r).dlyDones = 0 + 2 ∧
    (atIdle st [op] w r).dlyDones = 1 + 1 ∧ (atIdle st [op] w r).rspTakes = 0 + 1 :=
  ⟨rfl, rfl, rfl, rfl, rfl, rfl, rfl, rfl, rfl⟩

theorem witness_ResetRunsItsCourse :
    ∃ s : State, s.decIn = [] ∧ s.phase = .idle ∧ s.cmds = 0 :: [] ∧ s.wrAnswers = .err :: [] ∧ s.rspTakes = 0 + 1 := by
  obtain ⟨h1, h2, _, h4, h5, _, _, _, h9⟩ := atIdle_has .ready 0 .err .err
  exact ⟨_, h1, h2, h4, h5, h9⟩

/-- For both answers to the write, and for a read of no byte and of one. -/
theorem witness_InitializeRunsItsCourse :
    ∀ w : WrAnswer, ∀ r ∈ [RdAnswer.err, rdOk [], rdOk [0x18]], ∃ s : State,
      s.decIn = [] ∧ s.phase = .idle ∧ s.cmds = 1 :: [] ∧ s.wrAnswers = w :: [] ∧ s.rdAnswers = r :: [] ∧
      s.dlyDones = 0 + 2 ∧ s.rspTakes = 0 + 1 := by
  intro w r _
  obtain ⟨h1, h2, _, h4, h5, h6, h7, _, h9⟩ := atIdle_has .idle 1 w r
  exact ⟨_, h1, h2, h4, h5, h6, h7, h9⟩

/-- For `Idle` and `Ready`, both answers to the write, five bytes, and six with each verdict of R158. -/
theorem witness_MeasureRunsItsCourse :
    ∀ st : SeqState, ∀ w : WrAnswer, ∀ r ∈ [RdAnswer.err, rdOk [8, 0, 0, 0, 0], rdOk [0x98, 0, 0, 0, 0, 0],
      rdOk [0x10, 0, 0, 0, 0, 0], rdOk [0x08, 0, 0, 0, 0, 0, 0xEE]], ∃ s : State,
      s.decIn = [] ∧ s.phase = .idle ∧ s.st = st ∧ s.cmds = 2 :: [] ∧ s.wrAnswers = w :: [] ∧ s.rdAnswers = r :: [] ∧
      s.dlyDones = 1 + 1 ∧ s.rspTakes = 0 + 1 := by
  intro st w r _
  obtain ⟨h1, h2, h3, h4, h5, h6, _, h8, h9⟩ := atIdle_has st 2 w r
  exact ⟨_, h1, h2, h3, h4, h5, h6, h8, h9⟩

theorem witness_InitializeAlwaysReachesReady :
    ∃ s : State, s.decIn = [] ∧ s.phase = .idle ∧ s.cmds = 1 :: [] ∧ s.wrAnswers = .ok :: [] ∧
      s.rdAnswers = .ok ⟨[0x80], by simp⟩ :: [] ∧ s.dlyDones = 0 + 2 ∧ s.rspTakes = 0 + 1 := by
  obtain ⟨h1, h2, _, h4, h5, h6, h7, _, h9⟩ := atIdle_has .idle 1 .ok (rdOk [0x80])
  exact ⟨_, h1, h2, h4, h5, h6, h7, h9⟩

theorem witness_MeasureAfterNotCalibratedIsAccepted :
    ∃ s : State, s.decIn = [] ∧ s.phase = .idle ∧ s.st = .ready ∧ s.cmds = 2 :: 2 :: [] ∧ s.wrAnswers = .ok :: [] ∧
      s.rdAnswers = .ok ⟨[0x10, 1, 2, 3, 4, 5], by simp⟩ :: [] ∧ s.dlyDones = 1 + 1 ∧ s.rspTakes = 0 + 1 ∧
      (0x10 : Byte).getLsbD 7 = false ∧ (0x10 : Byte).getLsbD 3 = false :=
  ⟨atIdle .ready [2, 2] .ok (rdOk [0x10, 1, 2, 3, 4, 5]), rfl, rfl, rfl, rfl, rfl, rfl, rfl, rfl, by decide, by decide⟩

/-- In the first phase of the longest operation. -/
theorem witness_OperationsEndWithinFiveRequests :
    ∃ s : State, StateRule s ∧ s.decIn = [] ∧ 2 ≤ s.dlyDones ∧ s.wrAnswers ≠ [] ∧ s.rdAnswers ≠ [] ∧ 1 ≤ s.rspTakes ∧
      s.phase = .dly0 := by
  refine ⟨{ atIdle .initializing [] .ok (rdOk [0x18]) with curOp := .init, phase := .dly0 }, ?_, by decide, by decide,
    by decide, by decide, by decide, by decide⟩
  constructor <;> decide

/-! ### Witnesses: frames -/

/-- One operation of each kind answers a next state; the reads with a complete frame and with a short one. -/
theorem exec_witnesses :
    (∃ t : State, exec .wrInit (atWr .initializing .init .ok) = .next t ∧ t.phase ≠ .rsp) ∧
    (∃ t : State, exec .rdStatus (atRd .initializing .init (rdOk [])) = .next t) ∧
    (∃ t : State, exec .rdMeasure (atRd .measuring .measure (rdOk [8, 0, 0, 0, 0])) = .next t) ∧
    (∃ t : State, exec .rdMeasure measured = .next t ∧ t.resultReg = .ok) :=
  ⟨⟨(nextOf (exec .wrInit (atWr .initializing .init .ok))).getD State.reset, next_of (by decide), by decide⟩,
    ⟨_, next_of (t := (nextOf (exec .rdStatus (atRd .initializing .init (rdOk [])))).getD State.reset) (by decide)⟩,
    ⟨_, next_of (t := (nextOf (exec .rdMeasure (atRd .measuring .measure (rdOk [8, 0, 0, 0, 0])))).getD State.reset)
      (by decide)⟩,
    ⟨(nextOf (exec .rdMeasure measured)).getD State.reset, next_of (by decide), by decide⟩⟩

theorem witness_OnlyCompleteReadsWriteStatus :
    (∃ t : State, exec .wrInit (atWr .initializing .init .ok) = .next t ∧ Instr.wrInit ≠ .rdStatus ∧
      Instr.wrInit ≠ .rdMeasure) ∧
    (∃ t : State, exec .rdStatus (atRd .initializing .init (rdOk [])) = .next t ∧
      ∀ bytes rest, (atRd .initializing .init (rdOk [])).rdAnswers = .ok bytes :: rest → bytes.val.length < 1) ∧
    (∃ t : State, exec .rdMeasure (atRd .measuring .measure (rdOk [8, 0, 0, 0, 0])) = .next t ∧
      ∀ bytes rest, (atRd .measuring .measure (rdOk [8, 0, 0, 0, 0])).rdAnswers = .ok bytes :: rest →
        bytes.val.length < 6) := by
  obtain ⟨⟨t1, h1, _⟩, ⟨t2, h2⟩, ⟨t3, h3⟩, _⟩ := exec_witnesses
  refine ⟨⟨t1, h1, by decide, by decide⟩, ⟨t2, h2, ?_⟩, ⟨t3, h3, ?_⟩⟩
  · intro bytes rest h
    cases h
    decide
  · intro bytes rest h
    cases h
    decide

theorem witness_OnlySuccessWritesMeasurement : ∃ t : State, exec .rdMeasure measured = .next t ∧ t.resultReg = .ok :=
  exec_witnesses.2.2.2

theorem witness_OnlyAcceptanceWritesCurOp :
    ∃ t : State, exec .wrInit (atWr .initializing .init .ok) = .next t ∧ Instr.wrInit ≠ .hostReset ∧
      Instr.wrInit ≠ .hostInitialize ∧ Instr.wrInit ≠ .hostMeasure ∧ (atWr .initializing .init .ok).phase ≠ .idle := by
  obtain ⟨⟨t, h, _⟩, _⟩ := exec_witnesses
  exact ⟨t, h, by decide, by decide, by decide, by decide⟩

theorem witness_StKeptInsideAnOperation :
    ∃ t : State, exec .wrInit (atWr .initializing .init .ok) = .next t ∧ t.phase ≠ .rsp :=
  exec_witnesses.1

theorem witness_ResponseRegistersKeptUntilTheEnd :
    ∃ t : State, exec .wrInit (atWr .initializing .init .ok) = .next t ∧ t.phase ≠ .rsp :=
  exec_witnesses.1

theorem witness_OneTransactionAtATime : ∃ t : State, exec .wrInit (atWr .initializing .init .ok) = .next t := by
  obtain ⟨⟨t, h, _⟩, _⟩ := exec_witnesses
  exact ⟨t, h⟩

end Sys2Proof.Tests
end

/-! ## The response reader: how `RD_STATUS` and `RD_MEASURE` end when the read fails

A selected read waits for its answer; a failing answer is consumed, recorded and raised (R187, R190). -/

namespace Sys2Proof.Machine

variable {s : State} {rest : List RdAnswer}

/-! ### What a read does with an answer that fails -/

section AwaitRead

variable {n : Nat} {k : State → State}

theorem awaitRead_err (h : s.rdAnswers = .err :: rest) :
    awaitRead n s k = .next (raise .transportError ((s.setRdAnswers rest).record (.rdAnswer .err))) := by
  simp only [awaitRead, h]

theorem awaitRead_short {bytes : { l : List Byte // l.length ≤ 7 }} (h : s.rdAnswers = .ok bytes :: rest)
    (hn : bytes.val.length < n) :
    awaitRead n s k = .next (raise .shortRead ((s.setRdAnswers rest).record (.rdAnswer (.ok bytes)))) := by
  simp only [awaitRead, h, if_pos hn]

end AwaitRead

/-! ### The reads where `cur_op` and `phase` select them (R91) -/

theorem exec_rdStatus_selected (hp : s.phase = .rd) (ho : s.curOp = .init) :
    exec .rdStatus s = awaitRead 1 s fun s => respond .ok true false (s.setSt .ready) :=
  if_pos (decide_eq_true ⟨ho, hp⟩)

theorem exec_rdMeasure_selected (hp : s.phase = .rd) (ho : s.curOp = .measure) :
    exec .rdMeasure s = awaitRead 6 s finishMeasure :=
  if_pos (decide_eq_true ⟨ho, hp⟩)

/-! ### The failures that a read raises (R190): `st` follows the operation in progress -/

theorem raise_transportError_eq (s : State) :
    raise .transportError s = { s with
      st := failedSt s.curOp, resultReg := .transportError, statusValid := false, measValid := false,
      phase := .rsp } :=
  raise_eq .transportError s

theorem raise_shortRead_eq (s : State) :
    raise .shortRead s = { s with
      st := failedSt s.curOp, resultReg := .shortRead, statusValid := false, measValid := false,
      phase := .rsp } :=
  raise_eq .shortRead s

/-- Settles O21: the selected read consumes `RdErr` and raises `TransportError`, and `cur_op` says which `st` follows. -/
theorem failedReadEndsTheOperation : Obligations.FailedReadEndsTheOperation := by
  intro s rest hp ha
  refine ⟨fun ho => ?_, fun ho => ?_⟩
  · rw [exec_rdStatus_selected hp ho, awaitRead_err ha, raise_transportError_eq, State.record_curOp,
      State.setRdAnswers_curOp, ho]
    rfl
  · rw [exec_rdMeasure_selected hp ho, awaitRead_err ha, raise_transportError_eq, State.record_curOp,
      State.setRdAnswers_curOp, ho]
    rfl

/-- Settles O22: the selected read consumes an answer shorter than its length and raises `ShortRead`, before the
buffer is filled. -/
theorem shortReadEndsTheOperation : Obligations.ShortReadEndsTheOperation := by
  refine ⟨rfl, rfl, fun s bytes rest hp ha => ⟨fun ho hn => ?_, fun ho hn => ?_⟩⟩
  · rw [exec_rdStatus_selected hp ho, awaitRead_short ha hn, raise_shortRead_eq, State.record_curOp,
      State.setRdAnswers_curOp, ho]
    rfl
  · rw [exec_rdMeasure_selected hp ho, awaitRead_short ha hn, raise_shortRead_eq, State.record_curOp,
      State.setRdAnswers_curOp, ho]
    rfl

end Sys2Proof.Machine

/-! ## The status decoder: each flag of a status byte is read from its bits (R121 to R123) -/

namespace Sys2Proof.Machine

/-! ### The flags by their bits -/

theorem statusBusy_eq_getLsbD (s : Byte) : statusBusy s = s.getLsbD 7 :=
  (BitVec.msb_eq_decide s).symm

theorem statusCalibrated_eq_getLsbD (s : Byte) : statusCalibrated s = s.getLsbD 3 := by
  have hand : s &&& Config.calMask = if s.getLsbD 3 then Config.calMask else 0 := BitVec.and_twoPow s 3
  rw [statusCalibrated, hand]
  cases s.getLsbD 3 <;> rfl

/-- The mask is the two bits 6 and 5, so the masked byte is one of the four values of R122's table. -/
theorem and_modeMask (s : Byte) :
    s &&& Config.modeMask = (if s.getLsbD 6 then 0x40 else 0) ||| (if s.getLsbD 5 then 0x20 else 0) := by
  have hmask : Config.modeMask = BitVec.twoPow 8 6 ||| BitVec.twoPow 8 5 := by decide
  rw [hmask, BitVec.and_or_distrib_left, BitVec.and_twoPow, BitVec.and_twoPow]
  rfl

theorem statusMode_eq_of_bits (s : Byte) :
    statusMode s = if s.getLsbD 6 then .command else if s.getLsbD 5 then .cyclic else .normal := by
  rw [statusMode, and_modeMask]
  cases s.getLsbD 6 <;> cases s.getLsbD 5 <;> rfl

theorem statusMode_eq_normal_iff (s : Byte) :
    statusMode s = .normal ↔ s.getLsbD 6 = false ∧ s.getLsbD 5 = false := by
  rw [statusMode_eq_of_bits]
  cases s.getLsbD 6 <;> cases s.getLsbD 5 <;> decide

theorem statusMode_eq_cyclic_iff (s : Byte) :
    statusMode s = .cyclic ↔ s.getLsbD 6 = false ∧ s.getLsbD 5 = true := by
  rw [statusMode_eq_of_bits]
  cases s.getLsbD 6 <;> cases s.getLsbD 5 <;> decide

theorem statusMode_eq_command_iff (s : Byte) : statusMode s = .command ↔ s.getLsbD 6 = true := by
  rw [statusMode_eq_of_bits]
  cases s.getLsbD 6 <;> cases s.getLsbD 5 <;> decide

/-! ### How many bytes have given bits -/

theorem length_filter_getLsbD (i : Fin 8) :
    ((List.range 256).filter fun n => (BitVec.ofNat 8 n).getLsbD i).length = 128 := by
  fin_cases i <;> rfl

theorem length_filter_bit6_bit5 (c d : Bool) :
    ((List.range 256).filter fun n =>
      (BitVec.ofNat 8 n).getLsbD 6 = c ∧ (BitVec.ofNat 8 n).getLsbD 5 = d).length = 64 := by
  cases c <;> cases d <;> rfl

/-- Settles O4: the values are the model's own tests, the bits are what the masks single out, and each count is a
count of the bytes with those bits. -/
theorem statusFlagsOfAByte : Obligations.StatusFlagsOfAByte := by
  refine ⟨fun s => ⟨decide_eq_true_iff, statusBusy_eq_getLsbD s, rfl, statusMode_eq_normal_iff s,
    statusMode_eq_cyclic_iff s, statusMode_eq_command_iff s, decide_eq_true_iff, statusCalibrated_eq_getLsbD s⟩,
    ⟨rfl, rfl, rfl⟩, ?busy, ?normal, ?cyclic, ?command, ?calibrated⟩
  case busy =>
    simp only [parseStatus, statusBusy_eq_getLsbD]
    exact length_filter_getLsbD 7
  case normal =>
    simp only [parseStatus, statusMode_eq_normal_iff]
    exact length_filter_bit6_bit5 false false
  case cyclic =>
    simp only [parseStatus, statusMode_eq_cyclic_iff]
    exact length_filter_bit6_bit5 false true
  case command =>
    simp only [parseStatus, statusMode_eq_command_iff, Bool.decide_eq_true]
    exact length_filter_getLsbD 6
  case calibrated =>
    simp only [parseStatus, statusCalibrated_eq_getLsbD]
    exact length_filter_getLsbD 3

end Sys2Proof.Machine

/-! ## The frame decoder: each raw field is three pieces side by side (R131 to R133) -/

namespace Sys2Proof.Machine

/-! ### Three pieces side by side (R133): no shift loses a bit, and each piece keeps its own bit range -/

section Append

variable {l m n : Nat} (x : BitVec l) (y : BitVec m) (z : BitVec n)

theorem append_append_eq_or :
    x ++ y ++ z =
      x.setWidth (l + m + n) <<< (m + n) ||| y.setWidth (l + m + n) <<< n ||| z.setWidth (l + m + n) := by
  rw [← BitVec.setWidth_append_append_eq_shiftLeft_setWidth_or, BitVec.setWidth_eq]

theorem extractLsb'_append_append_high : (x ++ y ++ z).extractLsb' (m + n) l = x := by
  rw [BitVec.extractLsb'_append_eq_of_le (Nat.le_add_left n m), Nat.add_sub_cancel, BitVec.extractLsb'_append_eq_left]

theorem extractLsb'_append_append_middle : (x ++ y ++ z).extractLsb' n m = y := by
  rw [BitVec.extractLsb'_append_eq_of_le le_rfl, Nat.sub_self, BitVec.extractLsb'_append_eq_right]

theorem toNat_append_eq_add : (x ++ y).toNat = x.toNat * 2 ^ m + y.toNat := by
  rw [BitVec.toNat_append, ← Nat.shiftLeft_add_eq_or_of_lt y.isLt, Nat.shiftLeft_eq]

theorem toNat_append_append :
    (x ++ y ++ z).toNat = x.toNat * 2 ^ (m + n) + y.toNat * 2 ^ n + z.toNat := by
  rw [toNat_append_eq_add, toNat_append_eq_add, Nat.add_mul, Nat.mul_assoc, ← Nat.pow_add]

end Append

/-! ### The pieces of `b2`: its high nibble for the humidity, its low nibble for the temperature -/

theorem setWidth_ushiftRight_four (b : Byte) : (b >>> 4).setWidth 20 = (b.extractLsb' 4 4).setWidth 20 := by
  have hlt : b.toNat / 2 ^ 4 < 2 ^ 4 := Nat.div_lt_of_lt_mul b.isLt
  apply BitVec.eq_of_toNat_eq
  rw [BitVec.toNat_setWidth, BitVec.toNat_setWidth, BitVec.toNat_ushiftRight, BitVec.extractLsb'_toNat,
    Nat.shiftRight_eq_div_pow, Nat.mod_eq_of_lt hlt]

theorem setWidth_and_lowNibble (b : Byte) : (b &&& 0x0F).setWidth 20 = (b.extractLsb' 0 4).setWidth 20 := by
  apply BitVec.eq_of_toNat_eq
  rw [BitVec.toNat_setWidth, BitVec.toNat_setWidth, BitVec.toNat_and, BitVec.extractLsb'_toNat, Nat.shiftRight_zero]
  exact congrArg (· % 2 ^ 20) (Nat.and_two_pow_sub_one_eq_mod b.toNat 4)

/-! ### The fields as concatenations (R133) -/

theorem humidityRaw_eq_append (b0 b1 b2 : Byte) : humidityRaw b0 b1 b2 = b0 ++ b1 ++ b2.extractLsb' 4 4 := by
  rw [humidityRaw, setWidth_ushiftRight_four]
  exact (append_append_eq_or b0 b1 (b2.extractLsb' 4 4)).symm

theorem temperatureRaw_eq_append (b2 b3 b4 : Byte) : temperatureRaw b2 b3 b4 = b2.extractLsb' 0 4 ++ b3 ++ b4 := by
  rw [temperatureRaw, setWidth_and_lowNibble]
  exact (append_append_eq_or (b2.extractLsb' 0 4) b3 b4).symm

/-! ### The values of the fields, as sums of their pieces -/

theorem toNat_humidityRaw (b0 b1 b2 : Byte) :
    (humidityRaw b0 b1 b2).toNat = b0.toNat * 2 ^ 12 + b1.toNat * 2 ^ 4 + b2.toNat / 2 ^ 4 := by
  have hlt : b2.toNat / 2 ^ 4 < 2 ^ 4 := Nat.div_lt_of_lt_mul b2.isLt
  rw [humidityRaw_eq_append, toNat_append_append, BitVec.extractLsb'_toNat, Nat.shiftRight_eq_div_pow,
    Nat.mod_eq_of_lt hlt]

theorem toNat_temperatureRaw (b2 b3 b4 : Byte) :
    (temperatureRaw b2 b3 b4).toNat = b2.toNat % 2 ^ 4 * 2 ^ 16 + b3.toNat * 2 ^ 8 + b4.toNat := by
  rw [temperatureRaw_eq_append, toNat_append_append, BitVec.extractLsb'_toNat, Nat.shiftRight_zero]

/-- Settles O6: the formulas are the model's own; the bit ranges and the sums are those of the concatenations. -/
theorem rawFieldsOfAFrame : Obligations.RawFieldsOfAFrame := by
  rintro b0 b1 b2 b3 b4 _ rfl
  have hhum : (parseFrame b0 b1 b2 b3 b4).humRaw = b0 ++ b1 ++ b2.extractLsb' 4 4 := humidityRaw_eq_append b0 b1 b2
  have htemp : (parseFrame b0 b1 b2 b3 b4).tempRaw = b2.extractLsb' 0 4 ++ b3 ++ b4 :=
    temperatureRaw_eq_append b2 b3 b4
  refine ⟨rfl, ?_, ?_, ?_, toNat_humidityRaw b0 b1 b2, rfl, ?_, ?_, ?_, toNat_temperatureRaw b2 b3 b4⟩
  · exact hhum ▸ extractLsb'_append_append_high b0 b1 _
  · exact hhum ▸ extractLsb'_append_append_middle b0 b1 _
  · exact hhum ▸ BitVec.extractLsb'_append_eq_right
  · exact htemp ▸ extractLsb'_append_append_high _ b3 b4
  · exact htemp ▸ extractLsb'_append_append_middle _ b3 b4
  · exact htemp ▸ BitVec.extractLsb'_append_eq_right

end Sys2Proof.Machine

/-! ## Whole operations: each step by what it takes and issues, then the whole course

A run is cut at the waiting points of R24: to the write, over the settling delay to the read, and to the taking of
the response. -/

namespace Sys2Proof.Machine

open Safety

variable {s t : State} {k : State → State}

/-! ### What a wait does once its answer is there (R155 to R158) -/

theorem awaitDelay_done {n : Nat} (h : s.dlyDones = n + 1) :
    awaitDelay s k = .next (k ((s.setDlyDones n).record .dlyDone)) := by
  simp only [awaitDelay, h]

theorem awaitWrite_err {rest : List WrAnswer} (h : s.wrAnswers = .err :: rest) :
    awaitWrite s k = .next (raise .transportError ((s.setWrAnswers rest).record (.wrAnswer .err))) := by
  simp only [awaitWrite, h]

/-- The whole effect of `WrErr`, where the failed operation leaves `st` at `v` (R190). -/
theorem awaitWrite_err_eq {v : SeqState} {rest : List WrAnswer} (h : s.wrAnswers = .err :: rest)
    (hv : failedSt s.curOp = v) :
    awaitWrite s k = .next { s with
      wrAnswers := rest, trace := .wrAnswer .err :: s.trace, st := v, resultReg := .transportError,
      statusValid := false, measValid := false, phase := .rsp } := by
  subst hv
  exact awaitWrite_err h

theorem awaitWrite_ok {rest : List WrAnswer} (h : s.wrAnswers = .ok :: rest) :
    awaitWrite s k = .next (k ((s.setWrAnswers rest).record (.wrAnswer .ok))) := by
  simp only [awaitWrite, h]

theorem awaitRead_complete {n : Nat} {bytes : { l : List Byte // l.length ≤ 7 }} {rest : List RdAnswer}
    (h : s.rdAnswers = .ok bytes :: rest) (hn : n ≤ bytes.val.length) :
    awaitRead n s k = .next (k (receive n bytes.val ((s.setRdAnswers rest).record (.rdAnswer (.ok bytes))))) := by
  simp only [awaitRead, h, if_neg (Nat.not_lt.mpr hn)]

/-! ### The writes and the delays where `cur_op` and `phase` select them (R91) -/

theorem exec_wrReset_selected (hp : s.phase = .wr) (ho : s.curOp = .reset) :
    exec .wrReset s = awaitWrite s fun s => respond .ok false false (s.setSt .idle) :=
  if_pos (decide_eq_true ⟨ho, hp⟩)

theorem exec_wrInit_selected (hp : s.phase = .wr) (ho : s.curOp = .init) :
    exec .wrInit s = awaitWrite s (issueDelay .dly1 75) :=
  if_pos (decide_eq_true ⟨ho, hp⟩)

theorem exec_wrTrigger_selected (hp : s.phase = .wr) (ho : s.curOp = .measure) :
    exec .wrTrigger s = awaitWrite s (issueDelay .dly1 75) :=
  if_pos (decide_eq_true ⟨ho, hp⟩)

theorem exec_dlyPoweron_selected (hp : s.phase = .dly0) (ho : s.curOp = .init) :
    exec .dlyPoweron s = awaitDelay s (issueWrite [0xE1, 0x08, 0x00]) :=
  if_pos (decide_eq_true ⟨ho, hp⟩)

theorem exec_dlySettle_selected (hp : s.phase = .dly1) :
    exec .dlySettle s = awaitDelay s fun s => issueRead (readLength s.curOp) s :=
  if_pos (decide_eq_true hp)

/-- Settles O18: a selected write raises `TransportError` on `WrErr`, after which `cur_op` says which `st` follows, and
goes on with its own continuation on `WrOk`. -/
theorem writeAnswersAreTaken : Obligations.WriteAnswersAreTaken := by
  intro s rest hp
  refine ⟨fun ha => ⟨fun ho => ?_, fun ho => ?_, fun ho => ?_⟩, fun ha => ⟨fun ho => ?_, fun ho => ?_, fun ho => ?_⟩⟩
  · exact (exec_wrReset_selected hp ho).trans (awaitWrite_err_eq ha (congrArg failedSt ho))
  · exact (exec_wrInit_selected hp ho).trans (awaitWrite_err_eq ha (congrArg failedSt ho))
  · exact (exec_wrTrigger_selected hp ho).trans (awaitWrite_err_eq ha (congrArg failedSt ho))
  · exact (exec_wrReset_selected hp ho).trans (awaitWrite_ok ha)
  · exact (exec_wrInit_selected hp ho).trans (awaitWrite_ok ha)
  · exact (exec_wrTrigger_selected hp ho).trans (awaitWrite_ok ha)

/-- Settles O19: the selected power-on delay takes its `DlyDone` and goes on with the write of its frame. -/
theorem powerOnDelayLeadsToTheWrite : Obligations.PowerOnDelayLeadsToTheWrite :=
  fun _ _ hp ho hy => (exec_dlyPoweron_selected hp ho).trans (awaitDelay_done hy)

/-- The settling delay leads to the read of the length that `cur_op` gives (R157). -/
theorem exec_dlySettle_done {n : Nat} (hp : s.phase = .dly1) (hy : s.dlyDones = n + 1) :
    exec .dlySettle s = .next { s with
      dlyDones := n, trace := .memRead 0x38 (readLength s.curOp) :: .dlyDone :: s.trace, phase := .rd } :=
  (exec_dlySettle_selected hp).trans (awaitDelay_done hy)

/-- Settles O20: the read length of `cur_op` is 1 for `INITIALIZE` and 6 for `MEASURE`. -/
theorem settlingDelayLeadsToTheRead : Obligations.SettlingDelayLeadsToTheRead := by
  refine fun s n hp hy => ⟨fun ho => ?_, fun ho => ?_⟩
  · rw [exec_dlySettle_done hp hy, ho]
    rfl
  · rw [exec_dlySettle_done hp hy, ho]
    rfl

/-! ### The step that accepts a command (R151, R163) -/

theorem exec_hostInitialize_idle (hp : s.phase = .idle) :
    exec .hostInitialize s = .next (issueDelay .dly0 40 ((s.setCurOp .init).setSt .initializing)) :=
  if_pos hp

theorem exec_hostMeasure_ready (hp : s.phase = .idle) (hs : s.st = .ready) :
    exec .hostMeasure s = .next (issueWrite [0xAC, 0x33, 0x00] ((s.setCurOp .measure).setSt .measuring)) :=
  (if_pos hp).trans (congrArg _ (if_pos hs))

theorem exec_hostMeasure_refused (hp : s.phase = .idle) (hs : s.st ≠ .ready) :
    exec .hostMeasure s = .next (raise .notReady (s.setCurOp .measure)) :=
  (if_pos hp).trans (congrArg _ (if_neg hs))

theorem step_initialize {cs : List HostWord} (hd : s.decIn = []) (hp : s.phase = .idle) (hc : s.cmds = 1 :: cs) :
    step s = .next { s with
      cmds := cs, curOp := .init, st := .initializing, phase := .dly0,
      trace := .delay 40 :: .cmd 1 :: s.trace } :=
  (step_command hd hp hc).trans (exec_hostInitialize_idle (s := acceptCmd 1 cs s) hp)

theorem step_measure_ready {cs : List HostWord} (hd : s.decIn = []) (hp : s.phase = .idle) (hs : s.st = .ready)
    (hc : s.cmds = 2 :: cs) :
    step s = .next { s with
      cmds := cs, curOp := .measure, st := .measuring, phase := .wr,
      trace := .memWrite 0x38 [0xAC, 0x33, 0x00] :: .cmd 2 :: s.trace } :=
  (step_command hd hp hc).trans (exec_hostMeasure_ready (s := acceptCmd 2 cs s) hp hs)

theorem step_measure_refused {cs : List HostWord} (hd : s.decIn = []) (hp : s.phase = .idle) (hs : s.st ≠ .ready)
    (hc : s.cmds = 2 :: cs) :
    step s = .next { s with
      cmds := cs, curOp := .measure, resultReg := .notReady, statusValid := false, measValid := false, phase := .rsp,
      trace := .cmd 2 :: s.trace } :=
  (step_command hd hp hc).trans (exec_hostMeasure_refused (s := acceptCmd 2 cs s) hp hs)

/-! ### The step that takes an answer, for every operation that waits for it -/

theorem step_powerOn {n : Nat} (hd : s.decIn = []) (hp : s.phase = .dly0) (ho : s.curOp = .init)
    (hy : s.dlyDones = n + 1) :
    step s = .next { s with
      dlyDones := n, trace := .memWrite 0x38 [0xE1, 0x08, 0x00] :: .dlyDone :: s.trace, phase := .wr } :=
  (step_dly0 hd hp ho).trans (powerOnDelayLeadsToTheWrite s n hp ho hy)

theorem step_settle {n : Nat} (hd : s.decIn = []) (hp : s.phase = .dly1) (hy : s.dlyDones = n + 1) :
    step s = .next { s with
      dlyDones := n, trace := .memRead 0x38 (readLength s.curOp) :: .dlyDone :: s.trace, phase := .rd } :=
  (step_dly1 hd hp).trans (exec_dlySettle_done hp hy)

/-- After its write an operation other than `RESET` issues the settling delay (R156). -/
theorem step_wr_settles (hd : s.decIn = []) (hp : s.phase = .wr) (ho : s.curOp ≠ .reset) :
    step s = awaitWrite s (issueDelay .dly1 75) := by
  rw [step_wr hd hp]
  cases hop : s.curOp with
  | reset => exact absurd hop ho
  | init => exact exec_wrInit_selected hp hop
  | measure => exact exec_wrTrigger_selected hp hop

theorem step_rd_init (hd : s.decIn = []) (hp : s.phase = .rd) (ho : s.curOp = .init) :
    step s = awaitRead 1 s fun s => respond .ok true false (s.setSt .ready) := by
  rw [step_rd hd hp (by simp [ho]), if_pos ho, exec_rdStatus_selected hp ho]

theorem step_rd_measure (hd : s.decIn = []) (hp : s.phase = .rd) (ho : s.curOp = .measure) :
    step s = awaitRead 6 s finishMeasure := by
  rw [step_rd hd hp (by simp [ho]), if_neg (by simp [ho]), exec_rdMeasure_selected hp ho]

/-! ### How `MEASURE` ends once its frame has arrived (R158, R187) -/

/-- However `MEASURE` ends it offers its response, and keeps the decoders' inputs and the responses to be taken. -/
theorem finishMeasure_offers (s : State) :
    (finishMeasure s).phase = .rsp ∧ (finishMeasure s).decIn = s.decIn ∧
      (finishMeasure s).rspTakes = s.rspTakes := by
  obtain ⟨-, hf⟩ | ⟨-, -, hf⟩ | ⟨-, -, hf⟩ := finishMeasure_cases s
  all_goals
    rw [hf]
    exact ⟨rfl, rfl, rfl⟩

theorem finishMeasure_of_busy (hb : s.busy = true) : finishMeasure s = raise .deviceBusy s :=
  if_pos hb

theorem finishMeasure_of_not_calibrated (hb : s.busy = false) (hc : s.calibrated = false) :
    finishMeasure s = raise .notCalibrated s :=
  (if_neg (Bool.eq_false_iff.mp hb)).trans (if_neg (Bool.eq_false_iff.mp hc))

theorem finishMeasure_of_calibrated (hb : s.busy = false) (hc : s.calibrated = true) :
    finishMeasure s = respond .ok true true ((latchMeas s).setSt .ready) :=
  (if_neg (Bool.eq_false_iff.mp hb)).trans (if_pos hc)

/-- Six bytes or more fill `rx`, and the first is decoded (R117, R158). -/
theorem receive_six (b d0 d1 d2 d3 d4 : Byte) (more : List Byte) (s : State) :
    receive 6 (b :: d0 :: d1 :: d2 :: d3 :: d4 :: more) s = { s with
      rx := ⟨b, d0, d1, d2, d3, d4⟩, statusRaw := b, busy := statusBusy b, calibrated := statusCalibrated b,
      mode := statusMode b } := rfl

theorem exists_six_of_length_le {l : List Byte} (h : 6 ≤ l.length) :
    ∃ b d0 d1 d2 d3 d4 more, l = b :: d0 :: d1 :: d2 :: d3 :: d4 :: more := by
  match l, h with
  | b :: d0 :: d1 :: d2 :: d3 :: d4 :: more, _ => exact ⟨b, d0, d1, d2, d3, d4, more, rfl⟩

/-! ### Runs -/

/-- A run of any machine begins with its step. -/
theorem coreRun_succ {M : Host.Core} {a b : M.State} (k : Nat) (h : M.step a = .next b) :
    M.run (k + 1) a = M.run k b := by
  rw [Host.Core.run, h]

theorem run_succ (k : Nat) (h : step s = .next t) : Host.Core.run core (k + 1) s = Host.Core.run core k t :=
  coreRun_succ k h

/-- A step that offers the response, and the step in which the host takes it (R159). -/
theorem run_response {n : Nat} (h : step s = .next t) (hp : t.phase = .rsp) (hd : t.decIn = [])
    (hr : t.rspTakes = n + 1) : Host.Core.run core 2 s = .next (takeResponse t) :=
  (run_succ 1 h).trans (run_succ 0 (step_response hd hp hr))

/-- `INITIALIZE` from its acceptance to its write (R153). -/
theorem run_initialize_toWrite {d : Nat} {cs : List HostWord} (k : Nat) (hd : s.decIn = []) (hp : s.phase = .idle)
    (hc : s.cmds = 1 :: cs) (hy : s.dlyDones = d + 1) :
    Host.Core.run core (k + 2) s = Host.Core.run core k { s with
      cmds := cs, curOp := .init, st := .initializing, phase := .wr, dlyDones := d,
      trace := [.memWrite 0x38 [0xE1, 0x08, 0x00], .dlyDone, .delay 40, .cmd 1] ++ s.trace } :=
  (run_succ (k + 1) (step_initialize hd hp hc)).trans (run_succ k (step_powerOn hd rfl rfl hy))

/-- An operation other than `RESET` from `WrOk` over the settling delay to its read (R156, R157). -/
theorem run_write_toRead {d : Nat} {as : List WrAnswer} (k : Nat) (hd : s.decIn = []) (hp : s.phase = .wr)
    (ho : s.curOp ≠ .reset) (ha : s.wrAnswers = .ok :: as) (hy : s.dlyDones = d + 1) :
    Host.Core.run core (k + 2) s = Host.Core.run core k { s with
      wrAnswers := as, dlyDones := d, phase := .rd,
      trace := [.memRead 0x38 (readLength s.curOp), .dlyDone, .delay 75, .wrAnswer .ok] ++ s.trace } :=
  (run_succ (k + 1) ((step_wr_settles hd hp ho).trans (awaitWrite_ok ha))).trans
    (run_succ k (step_settle hd rfl hy))

/-- A write that fails ends its operation (R156, R190). -/
theorem run_write_fails {n : Nat} {as : List WrAnswer} (hd : s.decIn = []) (hp : s.phase = .wr)
    (ho : s.curOp ≠ .reset) (ha : s.wrAnswers = .err :: as) (hr : s.rspTakes = n + 1) :
    Host.Core.run core 2 s =
      .next (takeResponse (raise .transportError ((s.setWrAnswers as).record (.wrAnswer .err)))) :=
  run_response ((step_wr_settles hd hp ho).trans (awaitWrite_err ha)) rfl hd hr

section Read

variable {n : Nat} {rs : List RdAnswer} {bytes : { l : List Byte // l.length ≤ 7 }}

/-- A read that fails ends its operation (R158, R190). -/
theorem run_read_fails (hd : s.decIn = []) (hp : s.phase = .rd) (ho : s.curOp ≠ .reset)
    (ha : s.rdAnswers = .err :: rs) (hr : s.rspTakes = n + 1) :
    Host.Core.run core 2 s =
      .next (takeResponse (raise .transportError ((s.setRdAnswers rs).record (.rdAnswer .err)))) := by
  refine run_response ?_ rfl hd hr
  cases hop : s.curOp with
  | reset => exact absurd hop ho
  | init => exact (step_rd_init hd hp hop).trans (awaitRead_err ha)
  | measure => exact (step_rd_measure hd hp hop).trans (awaitRead_err ha)

/-- A read of no byte ends `INITIALIZE` (R114). -/
theorem run_status_short (hd : s.decIn = []) (hp : s.phase = .rd) (ho : s.curOp = .init)
    (ha : s.rdAnswers = .ok bytes :: rs) (hb : bytes.val.length < 1) (hr : s.rspTakes = n + 1) :
    Host.Core.run core 2 s =
      .next (takeResponse (raise .shortRead ((s.setRdAnswers rs).record (.rdAnswer (.ok bytes))))) :=
  run_response ((step_rd_init hd hp ho).trans (awaitRead_short ha hb)) rfl hd hr

/-- A read of fewer than six bytes ends `MEASURE` (R114). -/
theorem run_frame_short (hd : s.decIn = []) (hp : s.phase = .rd) (ho : s.curOp = .measure)
    (ha : s.rdAnswers = .ok bytes :: rs) (hb : bytes.val.length < 6) (hr : s.rspTakes = n + 1) :
    Host.Core.run core 2 s =
      .next (takeResponse (raise .shortRead ((s.setRdAnswers rs).record (.rdAnswer (.ok bytes))))) :=
  run_response ((step_rd_measure hd hp ho).trans (awaitRead_short ha hb)) rfl hd hr

/-- A status byte ends `INITIALIZE` with `OK`, whatever it says (R158, D11). -/
theorem run_status_complete {b : Byte} {more : List Byte} (hd : s.decIn = []) (hp : s.phase = .rd)
    (ho : s.curOp = .init) (ha : s.rdAnswers = .ok bytes :: rs) (hl : bytes.val = b :: more)
    (hr : s.rspTakes = n + 1) :
    Host.Core.run core 2 s = .next (takeResponse (respond .ok true false
      ((receive 1 (b :: more) ((s.setRdAnswers rs).record (.rdAnswer (.ok bytes)))).setSt .ready))) := by
  have hstep := (step_rd_init hd hp ho).trans (awaitRead_complete ha (by simp [hl]))
  rw [hl] at hstep
  exact run_response hstep rfl hd hr

/-- A frame of six bytes or more is received whole, and ends `MEASURE` as its status byte says (R158). -/
theorem run_frame_complete {b d0 d1 d2 d3 d4 : Byte} {more : List Byte} (hd : s.decIn = []) (hp : s.phase = .rd)
    (ho : s.curOp = .measure) (ha : s.rdAnswers = .ok bytes :: rs)
    (hl : bytes.val = b :: d0 :: d1 :: d2 :: d3 :: d4 :: more) (hr : s.rspTakes = n + 1) :
    Host.Core.run core 2 s = .next (takeResponse (finishMeasure { s with
      rdAnswers := rs, trace := .rdAnswer (.ok bytes) :: s.trace, rx := ⟨b, d0, d1, d2, d3, d4⟩,
      statusRaw := b, busy := statusBusy b, calibrated := statusCalibrated b, mode := statusMode b })) := by
  have hstep := (step_rd_measure hd hp ho).trans (awaitRead_complete ha (by simp [hl]))
  rw [hl, receive_six] at hstep
  obtain ⟨hphase, hdec, htakes⟩ := finishMeasure_offers _
  exact run_response hstep hphase (hdec.trans hd) (htakes.trans hr)

end Read

/-- `INITIALIZE` from its acceptance over the write to its read (R153). -/
theorem run_initialize_toRead {d : Nat} {cs : List HostWord} {as : List WrAnswer} (k : Nat) (hd : s.decIn = [])
    (hp : s.phase = .idle) (hc : s.cmds = 1 :: cs) (ha : s.wrAnswers = .ok :: as) (hy : s.dlyDones = d + 2) :
    Host.Core.run core (k + 4) s = Host.Core.run core k { s with
      cmds := cs, curOp := .init, st := .initializing, phase := .rd, wrAnswers := as, dlyDones := d,
      trace := [.memRead 0x38 1, .dlyDone, .delay 75, .wrAnswer .ok, .memWrite 0x38 [0xE1, 0x08, 0x00], .dlyDone,
        .delay 40, .cmd 1] ++ s.trace } :=
  (run_initialize_toWrite (k + 2) hd hp hc hy).trans (run_write_toRead k hd rfl nofun ha rfl)

/-- `MEASURE` from its acceptance over the write to its read (R154). -/
theorem run_measure_toRead {d : Nat} {cs : List HostWord} {as : List WrAnswer} (k : Nat) (hd : s.decIn = [])
    (hp : s.phase = .idle) (hs : s.st = .ready) (hc : s.cmds = 2 :: cs) (ha : s.wrAnswers = .ok :: as)
    (hy : s.dlyDones = d + 1) :
    Host.Core.run core (k + 3) s = Host.Core.run core k { s with
      cmds := cs, curOp := .measure, st := .measuring, phase := .rd, wrAnswers := as, dlyDones := d,
      trace := [.memRead 0x38 6, .dlyDone, .delay 75, .wrAnswer .ok, .memWrite 0x38 [0xAC, 0x33, 0x00],
        .cmd 2] ++ s.trace } :=
  (run_succ (k + 2) (step_measure_ready hd hp hs hc)).trans (run_write_toRead k hd rfl nofun ha hy)

/-- Settles O42: `INITIALIZE` runs to its write, or over it to its read, and the answer there ends it. -/
theorem initializeRunsItsCourse : Obligations.InitializeRunsItsCourse := by
  intro s cs d n hd hp hc hy hr
  refine ⟨fun as ha => ?writeFails, fun as r rs ha hb => ?answered⟩
  case writeFails =>
    exact ⟨_, (run_initialize_toWrite 2 hd hp hc hy).trans (run_write_fails hd rfl nofun ha hr),
      ⟨rfl, rfl, rfl⟩, ⟨rfl, rfl, rfl, rfl, rfl⟩, ⟨rfl, rfl, rfl, rfl⟩⟩
  case answered =>
    have htoRead := run_initialize_toRead 2 hd hp hc ha hy
    cases r with
    | err =>
      exact ⟨_, htoRead.trans (run_read_fails hd rfl nofun hb hr), _, _, ⟨rfl, rfl, rfl⟩, ⟨rfl, rfl, rfl, rfl⟩,
        fun _ => ⟨rfl, rfl, rfl, rfl, rfl, rfl, rfl⟩, nofun, nofun⟩
    | ok bytes =>
      cases hl : bytes.val with
      | nil =>
        refine ⟨_, htoRead.trans (run_status_short hd rfl rfl hb (by simp [hl]) hr), _, _, ⟨rfl, rfl, rfl⟩,
          ⟨rfl, rfl, rfl, rfl⟩, nofun, fun _ _ _ => ⟨rfl, rfl, rfl, rfl, rfl, rfl, rfl⟩, ?_⟩
        rintro _ b more ⟨⟩ hcons
        cases hl.symm.trans hcons
      | cons b more =>
        refine ⟨_, htoRead.trans (run_status_complete hd rfl rfl hb hl hr), _, _, ⟨rfl, rfl, rfl⟩,
          ⟨rfl, rfl, rfl, rfl⟩, nofun, ?_, ?_⟩
        · rintro _ ⟨⟩ hnil
          cases hl.symm.trans hnil
        · rintro _ _ _ ⟨⟩ hcons
          cases hl.symm.trans hcons
          exact ⟨rfl, rfl, rfl, rfl, rfl, rfl, rfl⟩

/-- Settles O44: it is the complete read of `InitializeRunsItsCourse`, with a frame of one byte. -/
theorem initializeAlwaysReachesReady : Obligations.InitializeAlwaysReachesReady := by
  intro s b cs as rs d n hd hp hc ha hb hy hr
  obtain ⟨-, hanswered⟩ := initializeRunsItsCourse s cs d n hd hp hc hy hr
  obtain ⟨t, hrun, _, _, ⟨hphase, hst, -⟩, -, -, -, hcomplete⟩ := hanswered as _ rs ha hb
  obtain ⟨-, rfl, -⟩ := hcomplete _ b [] rfl rfl
  exact ⟨t, hrun, hphase, hst⟩

/-- The three ends of a run that has reached the read of `MEASURE`, where a complete frame arrives: the bits 7 and 3 of
its status byte say which (R154, R158). -/
theorem measure_ends_with_frame {j n : Nat} {s₀ : State} {rs : List RdAnswer}
    {bytes : { l : List Byte // l.length ≤ 7 }} {b d0 d1 d2 d3 d4 : Byte} {more : List Byte}
    (hreach : Host.Core.run core j s₀ = Host.Core.run core 2 s) (hd : s.decIn = []) (hp : s.phase = .rd)
    (ho : s.curOp = .measure) (ha : s.rdAnswers = .ok bytes :: rs)
    (hl : bytes.val = b :: d0 :: d1 :: d2 :: d3 :: d4 :: more) (hr : s.rspTakes = n + 1) :
    ∃ t : State, Host.Core.run core j s₀ = .next t ∧ ∃ result : Response,
      operationEnds s t .ready [.rdAnswer (.ok bytes), .rsp result] ∧
      t.rx = ⟨b, d0, d1, d2, d3, d4⟩ ∧ t.statusRaw = b ∧ t.busy = statusBusy b ∧ t.mode = statusMode b ∧
      t.calibrated = statusCalibrated b ∧
      (b.getLsbD 7 = true → result = ⟨.deviceBusy, some (statusPartOf b), none⟩ ∧ sameMeas s t) ∧
      (b.getLsbD 7 = false → b.getLsbD 3 = false →
        result = ⟨.notCalibrated, some (statusPartOf b), none⟩ ∧ sameMeas s t) ∧
      (b.getLsbD 7 = false → b.getLsbD 3 = true →
        result = ⟨.ok, some (statusPartOf b), some (parseFrame d0 d1 d2 d3 d4)⟩ ∧
        t.measPart = parseFrame d0 d1 d2 d3 d4) := by
  have hrun := hreach.trans (run_frame_complete hd hp ho ha hl hr)
  have hfailed : failedSt s.curOp = .ready := congrArg failedSt ho
  cases hbusy : b.getLsbD 7 with
  | true =>
    rw [finishMeasure_of_busy ((statusBusy_eq_getLsbD b).trans hbusy)] at hrun
    exact ⟨_, hrun, _, ⟨rfl, hfailed, rfl⟩, rfl, rfl, rfl, rfl, rfl, fun _ => ⟨rfl, rfl, rfl, rfl, rfl⟩, nofun, nofun⟩
  | false =>
    have hidle := (statusBusy_eq_getLsbD b).trans hbusy
    cases hcal : b.getLsbD 3 with
    | false =>
      rw [finishMeasure_of_not_calibrated hidle ((statusCalibrated_eq_getLsbD b).trans hcal)] at hrun
      exact ⟨_, hrun, _, ⟨rfl, hfailed, rfl⟩, rfl, rfl, rfl, rfl, rfl, nofun, fun _ _ => ⟨rfl, rfl, rfl, rfl, rfl⟩,
        nofun⟩
    | true =>
      rw [finishMeasure_of_calibrated hidle ((statusCalibrated_eq_getLsbD b).trans hcal)] at hrun
      exact ⟨_, hrun, _, ⟨rfl, rfl, rfl⟩, rfl, rfl, rfl, rfl, rfl, nofun, nofun, fun _ _ => ⟨rfl, rfl⟩⟩

/-- Settles O43: `MEASURE` is refused, or runs to its write, or over it to its read; the answer there ends it, and a
complete frame says how. -/
theorem measureRunsItsCourse : Obligations.MeasureRunsItsCourse := by
  intro s cs n hd hp hc hr
  refine ⟨fun hs => ?refused, fun as hs ha => ?writeFails, fun as r rs d hs ha hb hy => ?answered⟩
  case refused =>
    exact ⟨_, run_response (step_measure_refused hd hp hs hc) rfl hd hr,
      ⟨rfl, rfl, rfl⟩, ⟨rfl, rfl, rfl, rfl, rfl⟩, ⟨rfl, rfl, rfl, rfl⟩⟩
  case writeFails =>
    exact ⟨_, (run_succ 2 (step_measure_ready hd hp hs hc)).trans (run_write_fails hd rfl nofun ha hr),
      ⟨rfl, rfl, rfl⟩, ⟨rfl, rfl, rfl, rfl, rfl⟩, ⟨rfl, rfl, rfl, rfl⟩⟩
  case answered =>
    have htoRead := run_measure_toRead 2 hd hp hs hc ha hy
    cases r with
    | err =>
      exact ⟨_, htoRead.trans (run_read_fails hd rfl nofun hb hr), _, ⟨rfl, rfl, rfl⟩,
        fun _ => ⟨rfl, ⟨rfl, rfl, rfl, rfl, rfl⟩, ⟨rfl, rfl, rfl, rfl⟩⟩, nofun, nofun⟩
    | ok bytes =>
      by_cases hlt : bytes.val.length < 6
      · refine ⟨_, htoRead.trans (run_frame_short hd rfl rfl hb hlt hr), _, ⟨rfl, rfl, rfl⟩, nofun,
          fun _ _ _ => ⟨rfl, ⟨rfl, rfl, rfl, rfl, rfl⟩, ⟨rfl, rfl, rfl, rfl⟩⟩, ?_⟩
        rintro _ _ _ _ _ _ _ _ ⟨⟩ hl
        exact absurd hlt (Nat.not_lt.mpr (by simp [hl]))
      · obtain ⟨b, d0, d1, d2, d3, d4, more, hl⟩ := exists_six_of_length_le (Nat.le_of_not_lt hlt)
        obtain ⟨t, hrun, result, hends, hframe⟩ := measure_ends_with_frame htoRead hd rfl rfl hb hl hr
        refine ⟨t, hrun, result, hends, nofun,
          fun _ h hlt' => absurd hlt' (RdAnswer.ok.inj h ▸ hlt), ?_⟩
        rintro _ _ _ _ _ _ _ _ ⟨⟩ hl'
        cases hl.symm.trans hl'
        exact hframe

/-- Settles O45: the frame that is neither busy nor calibrated leaves `Ready` and the second command behind, from
which a `MEASURE` is accepted. -/
theorem measureAfterNotCalibratedIsAccepted : Obligations.MeasureAfterNotCalibratedIsAccepted := by
  intro s b d0 d1 d2 d3 d4 cs as rs d n hd hp hs hc ha hb hy hr hbusy hcal
  have hrun := (run_measure_toRead 2 hd hp hs hc ha hy).trans (run_frame_complete hd rfl rfl hb rfl hr)
  rw [finishMeasure_of_not_calibrated ((statusBusy_eq_getLsbD b).trans hbusy)
    ((statusCalibrated_eq_getLsbD b).trans hcal)] at hrun
  exact ⟨_, hrun, rfl, rfl, rfl, _, step_measure_ready hd rfl rfl rfl, rfl, rfl, rfl⟩

end Sys2Proof.Machine

/-! ## The failures: a refused command keeps `st`, an operation that fails on its way leaves it by `cur_op` (R190) -/

namespace Sys2Proof.Machine

variable {s : State} {e : Failure}

/-- Of the three host operations only `MEASURE` fails back to `Ready`. -/
theorem failedSt_eq_ite (op : HostOp) : failedSt op = if op = .measure then .ready else .idle := by
  cases op <;> rfl

/-- A failure that refuses the command leaves `st` alone. -/
theorem raise_of_failSt_eq_st (h : failSt e s = s.st) :
    raise e s = { s with
      resultReg := e.code, statusValid := e.carriesStatus, measValid := false, phase := .rsp } := by
  rw [raise_eq, h]

/-- A failure of the operation in progress sets `st` by `cur_op`. -/
theorem raise_of_failSt_eq_failedSt (h : failSt e s = failedSt s.curOp) :
    raise e s = { s with
      st := (if s.curOp = .measure then .ready else .idle), resultReg := e.code, statusValid := e.carriesStatus,
      measValid := false, phase := .rsp } := by
  rw [raise_eq, h, failedSt_eq_ite]

/-- Settles O27: `NotReady` and `IllegalOp` refuse the command, the other four end the operation in progress; the code
and the status flag are the failure's own. -/
theorem raiseHasItsWholeEffect : Obligations.RaiseHasItsWholeEffect := fun _ =>
  ⟨raise_of_failSt_eq_st (e := .notReady) rfl,
    raise_of_failSt_eq_st (e := .illegalOp) rfl,
    raise_of_failSt_eq_failedSt (e := .transportError) rfl,
    raise_of_failSt_eq_failedSt (e := .shortRead) rfl,
    raise_of_failSt_eq_failedSt (e := .deviceBusy) rfl,
    raise_of_failSt_eq_failedSt (e := .notCalibrated) rfl⟩

end Sys2Proof.Machine

/-! ## Everything an operation and a step can do, as relations

`exec` and `step` answer a next state exactly where the relations `ExecTo` and `StepTo` hold; every invariant and frame
is then a case analysis over named transitions whose next states are written out. -/

namespace Sys2Proof.Machine

variable {s t : State} {i : Instr}

/-! ### What selects an operation (R81, R91) -/

/-- The three operations that a command word can name (R81). -/
def IsHostOp (i : Instr) : Prop := i = .hostReset ∨ i = .hostInitialize ∨ i = .hostMeasure

/-- The host operation of a command word; op code 3 has none (R92). -/
def hostInstr (op : HostWord) : Option Instr :=
  if op = 0 then some .hostReset
  else if op = 1 then some .hostInitialize
  else if op = 2 then some .hostMeasure
  else none

/-- The micro-operation that `cur_op` and `phase` select (R91; log entry 8 for `DLY_SETTLE`). -/
def microOp : HostOp → Phase → Option Instr
  | .reset, .wr => some .wrReset
  | .init, .wr => some .wrInit
  | .measure, .wr => some .wrTrigger
  | .init, .dly0 => some .dlyPoweron
  | _, .dly1 => some .dlySettle
  | .init, .rd => some .rdStatus
  | .measure, .rd => some .rdMeasure
  | _, _ => none

theorem microOp_idle (op : HostOp) : microOp op .idle = none := by cases op <;> rfl

theorem microOp_rsp (op : HostOp) : microOp op .rsp = none := by cases op <;> rfl

theorem microOp_dly0 {op : HostOp} (hi : microOp op .dly0 = some i) : op = .init ∧ i = .dlyPoweron := by
  cases op <;> cases hi
  exact ⟨rfl, rfl⟩

theorem microOp_dly1 (op : HostOp) : microOp op .dly1 = some .dlySettle := by cases op <;> rfl

theorem microOp_wr {op : HostOp} (hi : microOp op .wr = some i) :
    (op = .reset ∧ i = .wrReset) ∨ (op = .init ∧ i = .wrInit) ∨ (op = .measure ∧ i = .wrTrigger) := by
  cases op <;> cases hi <;> simp

theorem microOp_rd {op : HostOp} (hi : microOp op .rd = some i) :
    (op = .init ∧ i = .rdStatus) ∨ (op = .measure ∧ i = .rdMeasure) := by
  cases op <;> cases hi <;> simp

theorem phase_ne_idle_of_microOp (hi : microOp s.curOp s.phase = some i) : s.phase ≠ .idle := by
  intro hp
  rw [hp, microOp_idle] at hi
  cases hi

theorem phase_ne_rsp_of_microOp (hi : microOp s.curOp s.phase = some i) : s.phase ≠ .rsp := by
  intro hp
  rw [hp, microOp_rsp] at hi
  cases hi

/-- The operation that serves an input at a decoder used alone (D23). -/
def DecInput.instr : DecInput → Instr
  | .status b => .decodeStatus b
  | .frame b0 b1 b2 b3 b4 => .decodeFrame b0 b1 b2 b3 b4

theorem isHostOp_of_hostInstr {op : HostWord} (h : hostInstr op = some i) : IsHostOp i := by
  unfold hostInstr at h
  split_ifs at h <;> cases h <;> simp [IsHostOp]

/-- The one command word without an operation (R92). -/
theorem eq_three_of_hostInstr_eq_none {op : HostWord} (h : hostInstr op = none) : op = 3 := by
  revert op
  decide

theorem decode_hc_eq_hostInstr (op : HostWord) :
    decode .hc [op.setWidth 8] =
      match hostInstr op with
      | some i => .ok (i, [])
      | none => .error .reservedOp := by
  revert op
  decide

theorem decode_sel_eq_microOp (s : State) :
    decode .sel [s.sel] =
      match microOp s.curOp s.phase with
      | some i => .ok (i, [])
      | none => .error .selectsNothing := by
  rw [decode_sel]
  cases s.curOp <;> cases s.phase <;> rfl

theorem decode_decInput (d : DecInput) : decode d.word.1 d.word.2 = .ok (d.instr, []) := by
  cases d <;> rfl

/-- The answer that the phase of a micro-operation waits for has not come (R237). -/
def AnswerMissing (s : State) : Prop :=
  match s.phase with
  | .dly0 => s.dlyDones = 0
  | .dly1 => s.dlyDones = 0
  | .wr => s.wrAnswers = []
  | .rd => s.rdAnswers = []
  | .idle => False
  | .rsp => False

/-! ### What an operation can do -/

/-- Every way in which an operation answers a next state (R32, R151 to R158, R190), one constructor per transition. -/
inductive ExecTo (s : State) : Instr → State → Prop
  | commandWaits {i : Instr} (hi : IsHostOp i)
      (hp : s.phase ≠ .idle) : ExecTo s i s
  | answerWaits {i : Instr} (hi : microOp s.curOp s.phase = some i) (hw : AnswerMissing s) : ExecTo s i s
  | resetAccepted (hp : s.phase = .idle) :
      ExecTo s .hostReset { s with curOp := .reset, phase := .wr, trace := .memWrite 0x38 [0xBA] :: s.trace }
  | initAccepted (hp : s.phase = .idle) :
      ExecTo s .hostInitialize { s with
        curOp := .init, st := .initializing, phase := .dly0, trace := .delay 40 :: s.trace }
  | measureAccepted (hp : s.phase = .idle) (hs : s.st = .ready) :
      ExecTo s .hostMeasure { s with
        curOp := .measure, st := .measuring, phase := .wr, trace := .memWrite 0x38 [0xAC, 0x33, 0x00] :: s.trace }
  | measureRefused (hp : s.phase = .idle) (hs : s.st ≠ .ready) :
      ExecTo s .hostMeasure { s with
        curOp := .measure, resultReg := .notReady, statusValid := false, measValid := false, phase := .rsp }
  | writeFailed {i : Instr} {rest : List WrAnswer} (hi : microOp s.curOp s.phase = some i) (hp : s.phase = .wr)
      (ha : s.wrAnswers = .err :: rest) :
      ExecTo s i { s with
        wrAnswers := rest, trace := .wrAnswer .err :: s.trace, st := failedSt s.curOp, resultReg := .transportError,
        statusValid := false, measValid := false, phase := .rsp }
  | resetWritten {rest : List WrAnswer} (ho : s.curOp = .reset) (hp : s.phase = .wr) (ha : s.wrAnswers = .ok :: rest) :
      ExecTo s .wrReset { s with
        wrAnswers := rest, trace := .wrAnswer .ok :: s.trace, st := .idle, resultReg := .ok,
        statusValid := false, measValid := false, phase := .rsp }
  | frameWritten {i : Instr} {rest : List WrAnswer} (hi : microOp s.curOp s.phase = some i) (ho : s.curOp ≠ .reset)
      (hp : s.phase = .wr) (ha : s.wrAnswers = .ok :: rest) :
      ExecTo s i { s with
        wrAnswers := rest, trace := .delay 75 :: .wrAnswer .ok :: s.trace, phase := .dly1 }
  | poweredOn {n : Nat} (ho : s.curOp = .init) (hp : s.phase = .dly0) (hy : s.dlyDones = n + 1) :
      ExecTo s .dlyPoweron { s with
        dlyDones := n, trace := .memWrite 0x38 [0xE1, 0x08, 0x00] :: .dlyDone :: s.trace, phase := .wr }
  | settled {n : Nat} (hp : s.phase = .dly1) (hy : s.dlyDones = n + 1) :
      ExecTo s .dlySettle { s with
        dlyDones := n, trace := .memRead 0x38 (readLength s.curOp) :: .dlyDone :: s.trace, phase := .rd }
  | readFailed {i : Instr} {rest : List RdAnswer} (hi : microOp s.curOp s.phase = some i) (hp : s.phase = .rd)
      (ha : s.rdAnswers = .err :: rest) :
      ExecTo s i { s with
        rdAnswers := rest, trace := .rdAnswer .err :: s.trace, st := failedSt s.curOp, resultReg := .transportError,
        statusValid := false, measValid := false, phase := .rsp }
  | readShort {i : Instr} {bytes : { l : List Byte // l.length ≤ 7 }} {rest : List RdAnswer}
      (hi : microOp s.curOp s.phase = some i) (hp : s.phase = .rd) (ha : s.rdAnswers = .ok bytes :: rest)
      (hn : bytes.val.length < (readLength s.curOp).toNat) :
      ExecTo s i { s with
        rdAnswers := rest, trace := .rdAnswer (.ok bytes) :: s.trace, st := failedSt s.curOp, resultReg := .shortRead,
        statusValid := false, measValid := false, phase := .rsp }
  | statusRead {bytes : { l : List Byte // l.length ≤ 7 }} {b : Byte} {more : List Byte} {rest : List RdAnswer}
      (hp : s.phase = .rd) (ho : s.curOp = .init) (ha : s.rdAnswers = .ok bytes :: rest) (hl : bytes.val = b :: more) :
      ExecTo s .rdStatus { s with
        rdAnswers := rest, trace := .rdAnswer (.ok bytes) :: s.trace,
        rx := { s.rx with r0 := b },
        statusRaw := b, busy := statusBusy b, mode := statusMode b, calibrated := statusCalibrated b,
        st := .ready, resultReg := .ok, statusValid := true, measValid := false, phase := .rsp }
  | frameBusy {bytes : { l : List Byte // l.length ≤ 7 }} {b d0 d1 d2 d3 d4 : Byte} {more : List Byte}
      {rest : List RdAnswer} (hp : s.phase = .rd) (ho : s.curOp = .measure) (ha : s.rdAnswers = .ok bytes :: rest)
      (hl : bytes.val = b :: d0 :: d1 :: d2 :: d3 :: d4 :: more) (hb : b.getLsbD 7 = true) :
      ExecTo s .rdMeasure { s with
        rdAnswers := rest, trace := .rdAnswer (.ok bytes) :: s.trace, rx := ⟨b, d0, d1, d2, d3, d4⟩,
        statusRaw := b, busy := true, mode := statusMode b, calibrated := statusCalibrated b,
        st := .ready, resultReg := .deviceBusy, statusValid := true, measValid := false, phase := .rsp }
  | frameNotCalibrated {bytes : { l : List Byte // l.length ≤ 7 }} {b d0 d1 d2 d3 d4 : Byte} {more : List Byte}
      {rest : List RdAnswer} (hp : s.phase = .rd) (ho : s.curOp = .measure) (ha : s.rdAnswers = .ok bytes :: rest)
      (hl : bytes.val = b :: d0 :: d1 :: d2 :: d3 :: d4 :: more) (hb : b.getLsbD 7 = false)
      (hc : b.getLsbD 3 = false) :
      ExecTo s .rdMeasure { s with
        rdAnswers := rest, trace := .rdAnswer (.ok bytes) :: s.trace, rx := ⟨b, d0, d1, d2, d3, d4⟩,
        statusRaw := b, busy := false, mode := statusMode b, calibrated := false,
        st := .ready, resultReg := .notCalibrated, statusValid := true, measValid := false, phase := .rsp }
  | frameMeasured {bytes : { l : List Byte // l.length ≤ 7 }} {b d0 d1 d2 d3 d4 : Byte} {more : List Byte}
      {rest : List RdAnswer} (hp : s.phase = .rd) (ho : s.curOp = .measure) (ha : s.rdAnswers = .ok bytes :: rest)
      (hl : bytes.val = b :: d0 :: d1 :: d2 :: d3 :: d4 :: more) (hb : b.getLsbD 7 = false)
      (hc : b.getLsbD 3 = true) :
      ExecTo s .rdMeasure { s with
        rdAnswers := rest, trace := .rdAnswer (.ok bytes) :: s.trace, rx := ⟨b, d0, d1, d2, d3, d4⟩,
        statusRaw := b, busy := false, mode := statusMode b, calibrated := true,
        humRaw := humidityRaw d0 d1 d2, tempRaw := temperatureRaw d2 d3 d4,
        humidityPct := humidityPctOf (humidityRaw d0 d1 d2),
        temperatureC := temperatureCOf (temperatureRaw d2 d3 d4),
        st := .ready, resultReg := .ok, statusValid := true, measValid := true, phase := .rsp }
  | statusDecoded (b : Byte) :
      ExecTo s (.decodeStatus b) { s with trace := .statusDecoded b (parseStatus b) :: s.trace }
  | frameDecoded (b0 b1 b2 b3 b4 : Byte) :
      ExecTo s (.decodeFrame b0 b1 b2 b3 b4) { s with
        trace := .frameDecoded b0 b1 b2 b3 b4 (parseFrame b0 b1 b2 b3 b4) :: s.trace }

/-! #### Every such transition is one of `exec` -/

theorem exec_hostReset_idle (hp : s.phase = .idle) :
    exec .hostReset s = .next (issueWrite [0xBA] (s.setCurOp .reset)) :=
  if_pos hp

theorem exec_host_waits (hi : IsHostOp i) (hp : s.phase ≠ .idle) :
    exec i s = .next s := by
  obtain rfl | rfl | rfl := hi
  all_goals exact if_neg hp

/-- A selected write is its wait: the answer `WrOk` goes on with the end of `RESET` or with the settling delay. -/
theorem exec_write_selected (hp : s.phase = .wr) (hi : microOp s.curOp s.phase = some i) :
    exec i s = awaitWrite s (if s.curOp = .reset then fun s => respond .ok false false (s.setSt .idle)
      else issueDelay .dly1 75) := by
  rw [hp] at hi
  obtain ⟨ho, rfl⟩ | ⟨ho, rfl⟩ | ⟨ho, rfl⟩ := microOp_wr hi <;> rw [ho]
  · exact exec_wrReset_selected hp ho
  · exact exec_wrInit_selected hp ho
  · exact exec_wrTrigger_selected hp ho

/-- A selected read is its wait for the bytes that its operation asks for. -/
theorem exec_read_selected (hp : s.phase = .rd) (hi : microOp s.curOp s.phase = some i) :
    exec i s = awaitRead (readLength s.curOp).toNat s (if s.curOp = .init
      then fun s => respond .ok true false (s.setSt .ready) else finishMeasure) := by
  rw [hp] at hi
  obtain ⟨ho, rfl⟩ | ⟨ho, rfl⟩ := microOp_rd hi <;> rw [ho]
  · exact exec_rdStatus_selected hp ho
  · exact exec_rdMeasure_selected hp ho

theorem awaitDelay_missing {k : State → State} (h : s.dlyDones = 0) : awaitDelay s k = .next s := by
  simp only [awaitDelay, h]

theorem awaitWrite_missing {k : State → State} (h : s.wrAnswers = []) : awaitWrite s k = .next s := by
  simp only [awaitWrite, h]

theorem awaitRead_missing {n : Nat} {k : State → State} (h : s.rdAnswers = []) : awaitRead n s k = .next s := by
  simp only [awaitRead, h]

/-- Without its answer a selected micro-operation holds the whole state (R237). -/
theorem exec_answer_waits (hi : microOp s.curOp s.phase = some i) (hw : AnswerMissing s) : exec i s = .next s := by
  unfold AnswerMissing at hw
  cases hp : s.phase with rw [hp] at hw
  | idle => exact hw.elim
  | rsp => exact hw.elim
  | wr => rw [exec_write_selected hp hi, awaitWrite_missing hw]
  | rd => rw [exec_read_selected hp hi, awaitRead_missing hw]
  | dly0 =>
    rw [hp] at hi
    obtain ⟨ho, rfl⟩ := microOp_dly0 hi
    exact (exec_dlyPoweron_selected hp ho).trans (awaitDelay_missing hw)
  | dly1 =>
    rw [hp, microOp_dly1] at hi
    cases hi
    exact (exec_dlySettle_selected hp).trans (awaitDelay_missing hw)

/-- Settles O14: in `P_IDLE` both commands are accepted, and their effects are the first requests. -/
theorem resetAndInitializeAreAccepted : Obligations.ResetAndInitializeAreAccepted :=
  fun _ hp => ⟨exec_hostReset_idle hp, exec_hostInitialize_idle hp⟩

/-- Settles O15: in `P_IDLE` and `Ready` the command is accepted, and its effect is the trigger write. -/
theorem measureIsAcceptedInReady : Obligations.MeasureIsAcceptedInReady :=
  fun _ hp hs => exec_hostMeasure_ready hp hs

/-- Settles O16: in `P_IDLE` elsewhere than in `Ready` the command raises `NotReady`, a failure that keeps `st`. -/
theorem measureIsRefusedUnlessReady : Obligations.MeasureIsRefusedUnlessReady :=
  fun _ hp hs => exec_hostMeasure_refused hp hs

/-- Settles O23: the selected read is complete with one byte, which goes to `rx[0]` and is decoded. -/
theorem statusReadCompletes : Obligations.StatusReadCompletes := by
  intro s bytes b more rest hp ho ha hl
  rw [exec_rdStatus_selected hp ho, awaitRead_complete ha (by simp [hl]), hl]
  rfl

/-- A complete frame is received whole, and `finishMeasure` says how the operation ends (R158). -/
theorem exec_rdMeasure_complete {bytes : { l : List Byte // l.length ≤ 7 }} {b d0 d1 d2 d3 d4 : Byte}
    {more : List Byte} {rest : List RdAnswer} (hp : s.phase = .rd) (ho : s.curOp = .measure)
    (ha : s.rdAnswers = .ok bytes :: rest) (hl : bytes.val = b :: d0 :: d1 :: d2 :: d3 :: d4 :: more) :
    exec .rdMeasure s = .next (finishMeasure { s with
      rdAnswers := rest, trace := .rdAnswer (.ok bytes) :: s.trace, rx := ⟨b, d0, d1, d2, d3, d4⟩,
      statusRaw := b, busy := statusBusy b, calibrated := statusCalibrated b, mode := statusMode b }) := by
  rw [exec_rdMeasure_selected hp ho, awaitRead_complete ha (by simp [hl]), hl, receive_six]
  rfl

/-- Settles O24: the three ends are those of `finishMeasure`, which the bits 7 and 3 of the status byte select. -/
theorem measureReadCompletes : Obligations.MeasureReadCompletes := by
  intro s bytes b d0 d1 d2 d3 d4 more rest hp ho ha hl
  rw [exec_rdMeasure_complete hp ho ha hl, ← statusBusy_eq_getLsbD, ← statusCalibrated_eq_getLsbD]
  refine ⟨fun hb => ?_, fun hb hc => ?_, fun hb hc => ?_⟩
  · rw [finishMeasure_of_busy hb]
    simp [raise_eq, failSt, failedSt, Failure.code, Failure.carriesStatus, ho, hb]
  · rw [finishMeasure_of_not_calibrated hb hc]
    simp [raise_eq, failSt, failedSt, Failure.code, Failure.carriesStatus, ho, hb, hc]
  · rw [finishMeasure_of_calibrated hb hc]
    simp [respond_eq, latchMeas_eq, State.setSt, hb, hc]

/-- Settles O25: used alone a decoder does nothing but record its outputs. -/
theorem decodersAloneWriteNoRegister : Obligations.DecodersAloneWriteNoRegister :=
  fun _ => ⟨fun _ => rfl, fun _ _ _ _ _ => rfl⟩

/-- Each transition of the relation is what `exec` answers. -/
theorem exec_of_execTo (h : ExecTo s i t) : exec i s = .next t := by
  cases h with
  | commandWaits hi hp => exact exec_host_waits hi hp
  | answerWaits hi hw => exact exec_answer_waits hi hw
  | resetAccepted hp => exact exec_hostReset_idle hp
  | initAccepted hp => exact exec_hostInitialize_idle hp
  | measureAccepted hp hs => exact exec_hostMeasure_ready hp hs
  | measureRefused hp hs => exact exec_hostMeasure_refused hp hs
  | writeFailed hi hp ha => exact (exec_write_selected hp hi).trans (awaitWrite_err_eq ha rfl)
  | resetWritten ho hp ha => exact (exec_wrReset_selected hp ho).trans (awaitWrite_ok ha)
  | frameWritten hi ho hp ha => rw [exec_write_selected hp hi, if_neg ho, awaitWrite_ok ha]; rfl
  | poweredOn ho hp hy => exact powerOnDelayLeadsToTheWrite s _ hp ho hy
  | settled hp hy => exact exec_dlySettle_done hp hy
  | readFailed hi hp ha => rw [exec_read_selected hp hi, awaitRead_err ha]; rfl
  | readShort hi hp ha hn => rw [exec_read_selected hp hi, awaitRead_short ha hn]; rfl
  | statusRead hp ho ha hl => exact statusReadCompletes s _ _ _ _ hp ho ha hl
  | frameBusy hp ho ha hl hb =>
    obtain ⟨hbusy, -⟩ := measureReadCompletes s _ _ _ _ _ _ _ _ _ hp ho ha hl
    exact hbusy hb
  | frameNotCalibrated hp ho ha hl hb hc =>
    obtain ⟨-, hnotCalibrated, -⟩ := measureReadCompletes s _ _ _ _ _ _ _ _ _ hp ho ha hl
    exact hnotCalibrated hb hc
  | frameMeasured hp ho ha hl hb hc =>
    obtain ⟨-, -, hmeasured⟩ := measureReadCompletes s _ _ _ _ _ _ _ _ _ hp ho ha hl
    exact hmeasured hb hc
  | statusDecoded b => rfl
  | frameDecoded b0 b1 b2 b3 b4 => rfl

/-! #### `exec` does nothing else -/

/-- A complete frame ends its operation, for `MEASURE` as bits 7 and 3 of its status byte say. -/
theorem exists_execTo_of_frame {bytes : { l : List Byte // l.length ≤ 7 }} {rest : List RdAnswer}
    (hi : microOp s.curOp s.phase = some i) (hp : s.phase = .rd) (ha : s.rdAnswers = .ok bytes :: rest)
    (hn : (readLength s.curOp).toNat ≤ bytes.val.length) : ∃ t, ExecTo s i t := by
  rw [hp] at hi
  obtain ⟨ho, rfl⟩ | ⟨ho, rfl⟩ := microOp_rd hi <;> rw [ho] at hn
  · obtain ⟨b, more, hl⟩ := List.exists_cons_of_length_pos hn
    exact ⟨_, .statusRead hp ho ha hl⟩
  · obtain ⟨b, d0, d1, d2, d3, d4, more, hl⟩ := exists_six_of_length_le hn
    cases hb : b.getLsbD 7 with
    | true => exact ⟨_, .frameBusy hp ho ha hl hb⟩
    | false =>
      cases hc : b.getLsbD 3 with
      | false => exact ⟨_, .frameNotCalibrated hp ho ha hl hb hc⟩
      | true => exact ⟨_, .frameMeasured hp ho ha hl hb hc⟩

/-- A selected micro-operation has a transition for every answer that can come, and for none (R150). -/
theorem exists_execTo_of_microOp (hi : microOp s.curOp s.phase = some i) : ∃ t, ExecTo s i t := by
  cases hp : s.phase with
  | idle => exact absurd hp (phase_ne_idle_of_microOp hi)
  | rsp => exact absurd hp (phase_ne_rsp_of_microOp hi)
  | dly0 =>
    cases hy : s.dlyDones with
    | zero => exact ⟨_, .answerWaits hi (by simp only [AnswerMissing, hp, hy])⟩
    | succ n =>
      rw [hp] at hi
      obtain ⟨ho, rfl⟩ := microOp_dly0 hi
      exact ⟨_, .poweredOn ho hp hy⟩
  | wr =>
    match ha : s.wrAnswers with
    | [] => exact ⟨_, .answerWaits hi (by simp only [AnswerMissing, hp, ha])⟩
    | .err :: rest => exact ⟨_, .writeFailed hi hp ha⟩
    | .ok :: rest =>
      by_cases ho : s.curOp = .reset
      · rw [ho, hp] at hi
        cases hi
        exact ⟨_, .resetWritten ho hp ha⟩
      · exact ⟨_, .frameWritten hi ho hp ha⟩
  | dly1 =>
    cases hy : s.dlyDones with
    | zero => exact ⟨_, .answerWaits hi (by simp only [AnswerMissing, hp, hy])⟩
    | succ n =>
      rw [hp, microOp_dly1] at hi
      cases hi
      exact ⟨_, .settled hp hy⟩
  | rd =>
    match ha : s.rdAnswers with
    | [] => exact ⟨_, .answerWaits hi (by simp only [AnswerMissing, hp, ha])⟩
    | .err :: rest => exact ⟨_, .readFailed hi hp ha⟩
    | .ok bytes :: rest =>
      by_cases hn : bytes.val.length < (readLength s.curOp).toNat
      · exact ⟨_, .readShort hi hp ha hn⟩
      · exact exists_execTo_of_frame hi hp ha (Nat.le_of_not_lt hn)

/-- A micro-operation that answers a next state is the one that `cur_op` and `phase` select (R91). -/
theorem microOp_of_exec (h : exec i s = .next t) :
    IsHostOp i ∨ (∃ d : DecInput, i = d.instr) ∨
      microOp s.curOp s.phase = some i := by
  cases i with
  | hostReset => exact .inl (.inl rfl)
  | hostInitialize => exact .inl (.inr (.inl rfl))
  | hostMeasure => exact .inl (.inr (.inr rfl))
  | decodeStatus b => exact .inr (.inl ⟨.status b, rfl⟩)
  | decodeFrame b0 b1 b2 b3 b4 => exact .inr (.inl ⟨.frame b0 b1 b2 b3 b4, rfl⟩)
  | wrReset => obtain ⟨ho, hp, -⟩ := wrReset_next h; simp [ho, hp, microOp]
  | wrInit => obtain ⟨ho, hp, -⟩ := wrInit_next h; simp [ho, hp, microOp]
  | wrTrigger => obtain ⟨ho, hp, -⟩ := wrTrigger_next h; simp [ho, hp, microOp]
  | dlyPoweron => obtain ⟨ho, hp, -⟩ := dlyPoweron_next h; simp [ho, hp, microOp]
  | dlySettle => obtain ⟨hp, -⟩ := dlySettle_next h; simp [hp, microOp]
  | rdStatus => obtain ⟨ho, hp, -⟩ := rdStatus_next h; simp [ho, hp, microOp]
  | rdMeasure => obtain ⟨ho, hp, -⟩ := rdMeasure_next h; simp [ho, hp, microOp]

/-- A host operation has a transition in every state (R151, R163, R32). -/
theorem exists_execTo_of_host (hi : IsHostOp i) : ∃ t, ExecTo s i t := by
  by_cases hp : s.phase = .idle
  · obtain rfl | rfl | rfl := hi
    · exact ⟨_, .resetAccepted hp⟩
    · exact ⟨_, .initAccepted hp⟩
    · by_cases hs : s.st = .ready
      · exact ⟨_, .measureAccepted hp hs⟩
      · exact ⟨_, .measureRefused hp hs⟩
  · exact ⟨_, .commandWaits hi hp⟩

theorem exists_execTo_of_decInput (d : DecInput) : ∃ t, ExecTo s d.instr t := by
  cases d with
  | status b => exact ⟨_, .statusDecoded b⟩
  | frame b0 b1 b2 b3 b4 => exact ⟨_, .frameDecoded b0 b1 b2 b3 b4⟩

/-- Where `exec` answers a next state there is a transition. -/
theorem exists_execTo_of_exec (h : exec i s = .next t) : ∃ u, ExecTo s i u := by
  obtain hi | ⟨d, rfl⟩ | hi := microOp_of_exec h
  · exact exists_execTo_of_host hi
  · exact exists_execTo_of_decInput d
  · exact exists_execTo_of_microOp hi

/-- `exec` answers a next state exactly along the transitions. -/
theorem exec_next_iff : exec i s = .next t ↔ ExecTo s i t := by
  refine ⟨fun h => ?_, exec_of_execTo⟩
  obtain ⟨u, hu⟩ := exists_execTo_of_exec h
  cases (exec_of_execTo hu).symm.trans h
  exact hu

/-! ### What a step can do -/

/-- Every way in which a step answers a next state (R150, R159, R164; log entry 10). -/
inductive StepTo (s t : State) : Prop
  | serves {d : DecInput} {rest : List DecInput} (hd : s.decIn = d :: rest)
      (hx : exec d.instr (s.setDecIn rest) = .next t)
  | holds (hd : s.decIn = []) (hw : (s.phase = .idle ∧ s.cmds = []) ∨ (s.phase = .rsp ∧ s.rspTakes = 0)) (ht : t = s)
  | delivers {n : Nat} (hd : s.decIn = []) (hp : s.phase = .rsp) (hr : s.rspTakes = n + 1) (ht : t = takeResponse s)
  | accepts {op : HostWord} {rest : List HostWord} {i : Instr} (hd : s.decIn = []) (hp : s.phase = .idle)
      (hc : s.cmds = op :: rest) (hi : hostInstr op = some i) (hx : exec i (acceptCmd op rest s) = .next t)
  | refuses {rest : List HostWord} (hd : s.decIn = []) (hp : s.phase = .idle) (hc : s.cmds = 3 :: rest)
      (ht : t = raise .illegalOp (acceptCmd 3 rest s))
  | performs {i : Instr} (hd : s.decIn = []) (hi : microOp s.curOp s.phase = some i) (hx : exec i s = .next t)

theorem step_serves {d : DecInput} {rest : List DecInput} (hd : s.decIn = d :: rest) :
    step s = exec d.instr (s.setDecIn rest) := by
  simp only [step, fetch, hd, decode_decInput]

theorem step_accepts {op : HostWord} {rest : List HostWord} (hd : s.decIn = []) (hp : s.phase = .idle)
    (hc : s.cmds = op :: rest) (hi : hostInstr op = some i) : step s = exec i (acceptCmd op rest s) := by
  simp only [step, fetch, fetchSequencer, hd, hp, hc, decode_hc_eq_hostInstr, hi]

theorem step_refuses {rest : List HostWord} (hd : s.decIn = []) (hp : s.phase = .idle) (hc : s.cmds = 3 :: rest) :
    step s = .next (raise .illegalOp (acceptCmd 3 rest s)) :=
  step_command hd hp hc

theorem step_performs (hd : s.decIn = []) (hi : microOp s.curOp s.phase = some i) : step s = exec i s := by
  have hf : fetch s = .word .sel [s.sel] s := by
    cases hp : s.phase with
    | idle => exact absurd hp (phase_ne_idle_of_microOp hi)
    | rsp => exact absurd hp (phase_ne_rsp_of_microOp hi)
    | _ => simp only [fetch, fetchSequencer, hd, hp]
  simp only [step, hf, decode_sel_eq_microOp, hi]

theorem step_of_stepTo (h : StepTo s t) : step s = .next t := by
  cases h with
  | serves hd hx => exact (step_serves hd).trans hx
  | holds hd hw ht =>
    subst ht
    obtain ⟨hp, hc⟩ | ⟨hp, hr⟩ := hw
    · exact step_no_command hd hp hc
    · exact step_no_take hd hp hr
  | delivers hd hp hr ht => exact ht ▸ step_response hd hp hr
  | accepts hd hp hc hi hx => exact (step_accepts hd hp hc hi).trans hx
  | refuses hd hp hc ht => exact ht ▸ step_refuses hd hp hc
  | performs hd hi hx => exact (step_performs hd hi).trans hx

theorem stepTo_of_step (h : step s = .next t) : StepTo s t := by
  obtain ⟨b, rest, hd, hx⟩ | ⟨b0, b1, b2, b3, b4, rest, hd, hx⟩ | ⟨hd, ht, hw⟩ | ⟨n, hd, hp, hr, ht⟩ |
    ⟨op, rest, hd, hp, hc, hx⟩ | ⟨hd, i, hx, hi⟩ := step_cases h
  · exact .serves (d := .status b) hd hx
  · exact .serves (d := .frame b0 b1 b2 b3 b4) hd hx
  · exact .holds hd hw ht
  · exact .delivers hd hp hr ht
  · obtain ⟨rfl, hx⟩ | ⟨rfl, hx⟩ | ⟨rfl, hx⟩ | ⟨rfl, ht⟩ := hx
    · exact .accepts hd hp hc rfl hx
    · exact .accepts hd hp hc rfl hx
    · exact .accepts hd hp hc rfl hx
    · exact .refuses hd hp hc ht
  · refine .performs hd ?_ hx
    obtain ⟨ho, hp, rfl⟩ | ⟨ho, hp, rfl⟩ | ⟨ho, hp, rfl⟩ | ⟨ho, hp, rfl⟩ | ⟨hp, rfl⟩ | ⟨ho, hp, rfl⟩ |
      ⟨ho, hp, rfl⟩ := hi
    all_goals simp [microOp, *]

/-- What decoders, deliveries, acceptances, refusals and operations all keep, a step keeps. -/
theorem step_keeps {P : State → Prop} (hserve : ∀ s rest, P s → P (s.setDecIn rest))
    (hdeliver : ∀ s, s.phase = .rsp → P s → P (takeResponse s))
    (haccept : ∀ s op rest, s.phase = .idle → P s → P (acceptCmd op rest s))
    (hrefuse : ∀ s, s.phase = .idle → P s → P (raise .illegalOp s))
    (hexec : ∀ i s t, P s → ExecTo s i t → P t) (hs : P s) (h : step s = .next t) : P t := by
  cases stepTo_of_step h with
  | serves hd hx => exact hexec _ _ _ (hserve _ _ hs) (exec_next_iff.mp hx)
  | holds hd hw ht => exact ht ▸ hs
  | delivers hd hp hr ht => exact ht ▸ hdeliver _ hp hs
  | accepts hd hp hc hi hx => exact hexec _ _ _ (haccept _ _ _ hp hs) (exec_next_iff.mp hx)
  | refuses hd hp hc ht => exact ht ▸ hrefuse (acceptCmd 3 _ s) hp (haccept _ _ _ hp hs)
  | performs hd hi hx => exact hexec _ _ _ hs (exec_next_iff.mp hx)

end Sys2Proof.Machine

/-! ## The state rule (R22): `st` by the phase and the operation in progress -/

namespace Sys2Proof.Machine

open Safety

variable {s t : State} {i : Instr}

/-- `st` inside an operation: kept by `RESET`, which may begin in `Idle` and in `Ready`. -/
def stInside : HostOp → SeqState → Prop
  | .reset, st => st = .idle ∨ st = .ready
  | .init, st => st = .initializing
  | .measure, st => st = .measuring

/-- `st` at each waiting point, with the operations that have it. -/
def stAt : Phase → HostOp → SeqState → Prop
  | .idle, _, st => st = .idle ∨ st = .ready
  | .rsp, _, st => st = .idle ∨ st = .ready
  | .dly0, op, st => op = .init ∧ stInside op st
  | .wr, op, st => stInside op st
  | .dly1, op, st => op ≠ .reset ∧ stInside op st
  | .rd, op, st => op ≠ .reset ∧ stInside op st

/-- The state rule as a table of `st` by phase and operation. -/
theorem stateRule_iff : StateRule s ↔ stAt s.phase s.curOp s.st := by
  constructor
  · rintro ⟨hsettled, hinit, hmeas, hdly0, hread⟩
    cases hp : s.phase <;> cases ho : s.curOp <;> simp_all [stAt, stInside]
    case wr.reset => cases hs : s.st <;> simp_all
  · intro h
    cases hp : s.phase <;> cases ho : s.curOp <;> rw [hp, ho] at h <;> simp only [stAt, stInside] at h
    all_goals constructor <;> simp_all
    all_goals obtain h | h := h <;> simp [h]

/-- An operation that fails on its way leaves the block in `Idle` or in `Ready`. -/
theorem failedSt_settled (op : HostOp) : failedSt op = .idle ∨ failedSt op = .ready := by
  cases op <;> decide

theorem exec_keeps_stateRule (hs : StateRule s) (h : ExecTo s i t) : StateRule t := by
  have hst := stateRule_iff.mp hs
  rw [stateRule_iff]
  cases h with
  | commandWaits | answerWaits | statusDecoded | frameDecoded => exact hst
  | resetAccepted hp | measureRefused hp => rw [hp] at hst; exact hst
  | initAccepted => exact ⟨rfl, rfl⟩
  | measureAccepted => exact rfl
  | frameWritten _ ho hp => rw [hp] at hst; exact ⟨ho, hst⟩
  | poweredOn _ hp => rw [hp] at hst; exact hst.2
  | settled hp => rw [hp] at hst; exact hst
  | writeFailed | readFailed | readShort => exact failedSt_settled _
  | resetWritten => exact .inl rfl
  | statusRead | frameBusy | frameNotCalibrated | frameMeasured => exact .inr rfl

theorem stateRule_setDecIn (rest : List DecInput) (hs : StateRule s) : StateRule (s.setDecIn rest) :=
  stateRule_iff.mpr (stateRule_iff.mp hs :)

theorem stateRule_acceptCmd (op : HostWord) (rest : List HostWord) (hs : StateRule s) :
    StateRule (acceptCmd op rest s) :=
  stateRule_iff.mpr (stateRule_iff.mp hs :)

/-- Settles O34: every operation keeps the table of `st` by phase, and so do the step's own parts. -/
theorem stepKeepsTheStateRule : Obligations.StepKeepsTheStateRule := by
  intro s t hs h
  refine step_keeps (P := StateRule) ?_ ?_ ?_ ?_ (fun _ _ _ => exec_keeps_stateRule) hs h
  · exact fun _ rest => stateRule_setDecIn rest
  · exact fun s hp h => stateRule_iff.mpr (h.settled (.inr hp))
  · exact fun _ op rest _ => stateRule_acceptCmd op rest
  · exact fun s hp h => stateRule_iff.mpr (h.settled (.inl hp))

/-! ### Where the state rule holds the step is total -/

/-- Inside an operation the state rule excludes the selectors that select nothing. -/
theorem exists_microOp (hs : StateRule s) (hp : s.phase = .dly0 ∨ s.phase = .wr ∨ s.phase = .dly1 ∨ s.phase = .rd) :
    ∃ i, microOp s.curOp s.phase = some i := by
  have hst := stateRule_iff.mp hs
  obtain hp | hp | hp | hp := hp <;> cases ho : s.curOp <;> simp_all [stAt, microOp]

/-- Settles O38: each phase has its step, and inside an operation the selected micro-operation has a transition. -/
theorem stepNeverStops : Obligations.StepNeverStops := by
  intro s hs
  obtain ⟨d, rest, hd, -⟩ | ⟨hd, hp, hc, -⟩ | ⟨op, rest, hd, hp, hc, -⟩ | ⟨hd, hp, hr, -⟩ | ⟨n, hd, hp, hr, -⟩ |
    ⟨hd, hp, -⟩ := fetch_cases s
  · obtain ⟨t, ht⟩ := exists_execTo_of_decInput (s := s.setDecIn rest) d
    exact ⟨t, (step_serves hd).trans (exec_of_execTo ht)⟩
  · exact ⟨_, step_no_command hd hp hc⟩
  · cases hi : hostInstr op with
    | none => exact ⟨_, step_refuses hd hp (eq_three_of_hostInstr_eq_none hi ▸ hc)⟩
    | some i =>
      obtain ⟨t, ht⟩ := exists_execTo_of_host (s := acceptCmd op rest s) (isHostOp_of_hostInstr hi)
      exact ⟨t, (step_accepts hd hp hc hi).trans (exec_of_execTo ht)⟩
  · exact ⟨_, step_no_take hd hp hr⟩
  · exact ⟨_, step_response hd hp hr⟩
  · obtain ⟨i, hi⟩ := exists_microOp hs hp
    obtain ⟨t, ht⟩ := exists_execTo_of_microOp hi
    exact ⟨t, (step_performs hd hi).trans (exec_of_execTo ht)⟩

end Sys2Proof.Machine

/-! ## The requests (R104) and their order (R67) -/

namespace Sys2Proof.Machine

open Safety

variable {s t : State} {i : Instr}

/-- Every transaction so far is one that the block may make. -/
def LegalTrace (s : State) : Prop := ∀ e ∈ s.trace, legalRequest e

theorem legal_of_readLength (op : HostOp) : legalRequest (.memRead 0x38 (readLength op)) := by
  cases op
  · exact ⟨rfl, .inr rfl⟩
  · exact ⟨rfl, .inl rfl⟩
  · exact ⟨rfl, .inr rfl⟩

theorem exec_keeps_legalTrace (hs : LegalTrace s) (h : ExecTo s i t) : LegalTrace t := by
  cases h with
  | commandWaits | answerWaits | measureRefused => exact hs
  | resetAccepted => exact List.forall_mem_cons.mpr ⟨⟨rfl, .inl rfl⟩, hs⟩
  | initAccepted => exact List.forall_mem_cons.mpr ⟨.inl rfl, hs⟩
  | measureAccepted => exact List.forall_mem_cons.mpr ⟨⟨rfl, .inr (.inr rfl)⟩, hs⟩
  | frameWritten => exact List.forall_mem_cons.mpr ⟨.inr rfl, List.forall_mem_cons.mpr ⟨trivial, hs⟩⟩
  | poweredOn => exact List.forall_mem_cons.mpr ⟨⟨rfl, .inr (.inl rfl)⟩, List.forall_mem_cons.mpr ⟨trivial, hs⟩⟩
  | settled => exact List.forall_mem_cons.mpr ⟨legal_of_readLength _, List.forall_mem_cons.mpr ⟨trivial, hs⟩⟩
  | _ => exact List.forall_mem_cons.mpr ⟨trivial, hs⟩

/-- Settles O36: an operation adds only legal requests, and the step's own parts add none. -/
theorem stepKeepsRequestsLegal : Obligations.StepKeepsRequestsLegal := by
  intro s t hs h
  refine step_keeps (P := LegalTrace) ?_ ?_ ?_ ?_ (fun _ _ _ => exec_keeps_legalTrace) hs h
  · exact fun s rest h => h
  · exact fun s hp h => List.forall_mem_cons.mpr ⟨trivial, h⟩
  · exact fun s op rest hp h => List.forall_mem_cons.mpr ⟨trivial, h⟩
  · exact fun s hp h => h

/-- A decoder used alone keeps the order: its transaction is not the sequencer's. -/
theorem decInput_keeps_orderRule {d : DecInput} (hs : OrderRule s) (h : exec d.instr s = .next t) : OrderRule t := by
  cases d with
  | status b => exact decodeStatus_next h ▸ hs
  | frame b0 b1 b2 b3 b4 => exact decodeFrame_next h ▸ hs

/-- The word of each host operation (R81). -/
theorem eq_of_hostInstr (op : HostWord) :
    (hostInstr op = some .hostReset → op = 0) ∧ (hostInstr op = some .hostInitialize → op = 1) ∧
      (hostInstr op = some .hostMeasure → op = 2) := by
  revert op
  decide

theorem isPrefix_cons_cons {α : Type} {a b : α} {l m : List α} (h : l <+: m) : a :: b :: l <+: a :: b :: m := by
  obtain ⟨r, rfl⟩ := h
  exact ⟨r, rfl⟩

/-- Between operations the order rule asks for nothing. -/
theorem orderRule_of_settled (hp : s.phase = .idle ∨ s.phase = .rsp) : OrderRule s := by
  unfold OrderRule
  obtain hp | hp := hp <;> rw [hp] <;> exact ⟨_, rfl⟩

/-- An accepted command is the first transaction of its operation's course (R151). -/
theorem accepted_meets_orderRule {op : HostWord} {rest : List HostWord} (hp : s.phase = .idle)
    (hi : hostInstr op = some i) (h : exec i (acceptCmd op rest s) = .next t) : OrderRule t := by
  obtain ⟨hreset, hinit, hmeasure⟩ := eq_of_hostInstr op
  obtain rfl | rfl | rfl := isHostOp_of_hostInstr hi
  · cases hreset hi
    obtain ⟨-, rfl⟩ | ⟨hbusy, -⟩ := hostReset_next h
    · exact ⟨_, rfl⟩
    · exact absurd hp hbusy
  · cases hinit hi
    obtain ⟨-, rfl⟩ | ⟨hbusy, -⟩ := hostInitialize_next h
    · exact ⟨_, rfl⟩
    · exact absurd hp hbusy
  · cases hmeasure hi
    obtain ⟨-, -, rfl⟩ | ⟨-, -, rfl⟩ | ⟨hbusy, -⟩ := hostMeasure_next h
    · exact ⟨_, rfl⟩
    · exact orderRule_of_settled (.inr rfl)
    · exact absurd hp hbusy

/-- The length that the reader asks for is the one its operation has (R95, R157); `RESET` reads nothing. -/
theorem readLength_eq_bytesAsked {op : HostOp} (h : op ≠ .reset) : readLength op = bytesAsked op := by
  cases op
  · exact absurd rfl h
  · rfl
  · rfl

/-- Inside an operation each transition continues its course, with the answer taken and the request made. -/
theorem exec_keeps_orderRule (hs : StateRule s) (hidle : s.phase ≠ .idle) (horder : OrderRule s) (h : ExecTo s i t) :
    OrderRule t := by
  have hst := stateRule_iff.mp hs
  unfold OrderRule at horder
  cases h with
  | commandWaits | answerWaits | statusDecoded | frameDecoded => exact horder
  | resetAccepted hp | initAccepted hp | measureAccepted hp => exact absurd hp hidle
  | frameWritten _ _ hp =>
    rw [hp] at horder
    exact isPrefix_cons_cons horder
  | poweredOn ho hp =>
    rw [hp] at horder
    unfold OrderRule
    rw [ho]
    exact isPrefix_cons_cons horder
  | settled hp =>
    rw [hp] at horder hst
    unfold OrderRule doneSoFar
    rw [← readLength_eq_bytesAsked hst.1]
    exact isPrefix_cons_cons horder
  | _ => exact orderRule_of_settled (.inr rfl)

/-- Settles O37: a command begins its operation's course, each micro-operation continues it, and nothing else is the
sequencer's. -/
theorem stepKeepsTheOrder : Obligations.StepKeepsTheOrder := by
  intro s t hs horder h
  cases stepTo_of_step h with
  | @serves d rest hd hx => exact decInput_keeps_orderRule (s := s.setDecIn rest) horder hx
  | holds hd hw ht => exact ht ▸ horder
  | delivers hd hp hr ht => exact ht ▸ orderRule_of_settled (.inl rfl)
  | accepts hd hp hc hi hx => exact accepted_meets_orderRule hp hi hx
  | refuses hd hp hc ht => exact ht ▸ orderRule_of_settled (.inr rfl)
  | performs hd hi hx => exact exec_keeps_orderRule hs (phase_ne_idle_of_microOp hi) horder (exec_next_iff.mp hx)

/-! ## The response rule (R31, R161, R188) -/

/-- Where no response is offered the rule asks for nothing. -/
theorem responseRule_of_phase_ne (hp : s.phase ≠ .rsp) : ResponseRule s :=
  ⟨fun h => absurd h hp, fun h => absurd h hp, fun h => absurd h hp, fun h => absurd h hp, fun h => absurd h hp,
    fun h => absurd h hp, fun h => absurd h hp⟩

/-- The results without a payload: those of R31's table with both flags 0. -/
def NoPayload (op : HostOp) (r : ResultCode) : Prop := carriesStatus op r = false ∧ carriesMeas op r = false

theorem noPayload_transportError (op : HostOp) : NoPayload op .transportError := by cases op <;> exact ⟨rfl, rfl⟩
theorem noPayload_shortRead (op : HostOp) : NoPayload op .shortRead := by cases op <;> exact ⟨rfl, rfl⟩
theorem noPayload_illegalOp (op : HostOp) : NoPayload op .illegalOp := by cases op <;> exact ⟨rfl, rfl⟩

/-- A response without a payload meets the rule where its operation can end so. -/
theorem responseRule_of_noPayload (hend : legalEnd s.curOp s.resultReg s.st) (hn : NoPayload s.curOp s.resultReg)
    (hsv : s.statusValid = false) (hmv : s.measValid = false) : ResponseRule s where
  ends _ := hend
  statusFlag _ := hsv.trans hn.1.symm
  measFlag _ := hmv.trans hn.2.symm
  statusDecoded _ h := absurd (hsv.symm.trans h) nofun
  measured _ h := absurd (hmv.symm.trans h) nofun
  deviceBusy _ h := by simp [h, NoPayload, carriesStatus] at hn
  notCalibrated _ h := by simp [h, NoPayload, carriesStatus] at hn

theorem legalEnd_transportError (op : HostOp) : legalEnd op .transportError (failedSt op) := by
  cases op <;> rfl

theorem legalEnd_shortRead {op : HostOp} (ho : op ≠ .reset) : legalEnd op .shortRead (failedSt op) := by
  cases op
  · exact absurd rfl ho
  · rfl
  · rfl

theorem legalEnd_illegalOp (op : HostOp) {st : SeqState} (h : st = .idle ∨ st = .ready) :
    legalEnd op .illegalOp st := by
  cases op <;> exact h

theorem exec_keeps_responseRule (hs : StateRule s) (hr : ResponseRule s) (h : ExecTo s i t) : ResponseRule t := by
  have hst := stateRule_iff.mp hs
  cases h with
  | commandWaits | answerWaits => exact hr
  | resetAccepted | initAccepted | measureAccepted | frameWritten | poweredOn | settled =>
    exact responseRule_of_phase_ne nofun
  | measureRefused hp hready =>
    rw [hp] at hst
    exact responseRule_of_noPayload (hst.resolve_right hready) ⟨rfl, rfl⟩ rfl rfl
  | writeFailed | readFailed =>
    exact responseRule_of_noPayload (legalEnd_transportError _) (noPayload_transportError _) rfl rfl
  | resetWritten ho =>
    refine responseRule_of_noPayload ?_ ?_ rfl rfl
    · simp only [ho, legalEnd]
    · simp only [ho, NoPayload, carriesStatus, carriesMeas, and_self]
  | readShort hi hp =>
    rw [hp] at hst
    exact responseRule_of_noPayload (legalEnd_shortRead hst.1) (noPayload_shortRead _) rfl rfl
  | statusRead hp ho => constructor <;> simp [ho, legalEnd, carriesStatus, carriesMeas]
  | frameBusy hp ho ha hl hb =>
    rw [← statusBusy_eq_getLsbD] at hb
    constructor <;> simp [ho, hb, legalEnd, carriesStatus, carriesMeas]
  | frameNotCalibrated hp ho ha hl hb hc | frameMeasured hp ho ha hl hb hc =>
    rw [← statusBusy_eq_getLsbD] at hb
    rw [← statusCalibrated_eq_getLsbD] at hc
    constructor <;> simp [ho, hb, hc, legalEnd, carriesStatus, carriesMeas]
  | statusDecoded | frameDecoded => exact { hr with }

/-- Settles O35: every operation that ends writes a response that the rule allows, and nothing else writes one. The
state rule serves the ends whose `st` was there before. -/
theorem stepKeepsTheResponseRule : Obligations.StepKeepsTheResponseRule := by
  intro s t hs hr h
  cases stepTo_of_step h with
  | @serves d rest hd hx =>
    exact exec_keeps_responseRule (stateRule_setDecIn rest hs) { hr with } (exec_next_iff.mp hx)
  | holds hd hw ht => exact ht ▸ hr
  | delivers hd hp hr ht => exact ht ▸ responseRule_of_phase_ne nofun
  | @accepts op rest i hd hp hc hi hx =>
    exact exec_keeps_responseRule (stateRule_acceptCmd op rest hs) { hr with } (exec_next_iff.mp hx)
  | refuses hd hp hc ht =>
    exact ht ▸ responseRule_of_noPayload (legalEnd_illegalOp _ (hs.settled (.inl hp))) (noPayload_illegalOp _) rfl rfl
  | performs hd hi hx => exact exec_keeps_responseRule hs hr (exec_next_iff.mp hx)

end Sys2Proof.Machine

/-! ## Noninterference (R36): a register without a value after reset is never read before it is written -/

namespace Sys2Proof.Machine

open Safety

variable {s s' t : State} {i : Instr}

/-- Where a micro-operation is selected `cur_op` is the operation in progress, so both states have the same. -/
theorem sameToHost_curOp (h : SameToHost s t) (hi : microOp s.curOp s.phase = some i) : s.curOp = t.curOp := by
  cases hp : s.phase with
  | idle => exact absurd hp (phase_ne_idle_of_microOp hi)
  | rsp => exact absurd hp (phase_ne_rsp_of_microOp hi)
  | _ => exact h.curOp (by simp [hp])

theorem sameToHost_microOp (h : SameToHost s t) (hi : microOp s.curOp s.phase = some i) :
    microOp t.curOp t.phase = some i := by
  rw [← sameToHost_curOp h hi, ← h.phase]
  exact hi

theorem sameToHost_answerMissing (h : SameToHost s t) (hw : AnswerMissing s) : AnswerMissing t := by
  unfold AnswerMissing at *
  rw [← h.phase, ← h.dlyDones, ← h.wrAnswers, ← h.rdAnswers]
  exact hw

/-- Two states that no host can tell apart perform an operation alike: each transition tests only what they share, and
writes whatever it goes on to show. -/
theorem exec_sameToHost (h : SameToHost s t) (hx : ExecTo s i s') : ∃ t', ExecTo t i t' ∧ SameToHost s' t' := by
  have hphase := h.phase
  have htrace := h.trace
  cases hx with
  | commandWaits hi hp => exact ⟨t, .commandWaits hi (hphase ▸ hp), h⟩
  | answerWaits hi hw => exact ⟨t, .answerWaits (sameToHost_microOp h hi) (sameToHost_answerMissing h hw), h⟩
  | resetAccepted hp =>
    exact ⟨_, .resetAccepted (hphase ▸ hp), { h with
      phase := rfl, curOp := fun _ => rfl, response := nofun, trace := congrArg (List.cons _) htrace }⟩
  | initAccepted hp =>
    exact ⟨_, .initAccepted (hphase ▸ hp), { h with
      st := rfl, phase := rfl, curOp := fun _ => rfl, response := nofun, trace := congrArg (List.cons _) htrace }⟩
  | measureAccepted hp hs =>
    exact ⟨_, .measureAccepted (hphase ▸ hp) (h.st ▸ hs), { h with
      st := rfl, phase := rfl, curOp := fun _ => rfl, response := nofun, trace := congrArg (List.cons _) htrace }⟩
  | measureRefused hp hs =>
    exact ⟨_, .measureRefused (hphase ▸ hp) (h.st ▸ hs), { h with
      phase := rfl, curOp := fun _ => rfl, response := fun _ => rfl }⟩
  | writeFailed hi hp ha =>
    have ho := sameToHost_curOp h hi
    exact ⟨_, .writeFailed (sameToHost_microOp h hi) (hphase ▸ hp) (h.wrAnswers ▸ ha), { h with
      st := congrArg failedSt ho, phase := rfl, curOp := fun _ => ho, response := fun _ => rfl, wrAnswers := rfl,
      trace := congrArg (List.cons _) htrace }⟩
  | resetWritten hr hp ha =>
    have ho := h.curOp (.inr (.inl hp))
    exact ⟨_, .resetWritten (ho ▸ hr) (hphase ▸ hp) (h.wrAnswers ▸ ha), { h with
      st := rfl, phase := rfl, curOp := fun _ => ho, response := fun _ => rfl, wrAnswers := rfl,
      trace := congrArg (List.cons _) htrace }⟩
  | frameWritten hi hr hp ha =>
    have ho := sameToHost_curOp h hi
    exact ⟨_, .frameWritten (sameToHost_microOp h hi) (ho ▸ hr) (hphase ▸ hp) (h.wrAnswers ▸ ha), { h with
      phase := rfl, curOp := fun _ => ho, response := nofun, wrAnswers := rfl,
      trace := congrArg (List.append [_, _]) htrace }⟩
  | poweredOn hi hp hy =>
    have ho := h.curOp (.inl hp)
    exact ⟨_, .poweredOn (ho ▸ hi) (hphase ▸ hp) (h.dlyDones ▸ hy), { h with
      phase := rfl, curOp := fun _ => ho, response := nofun, dlyDones := rfl,
      trace := congrArg (List.append [_, _]) htrace }⟩
  | settled hp hy =>
    have ho := h.curOp (.inr (.inr (.inl hp)))
    refine ⟨_, .settled (hphase ▸ hp) (h.dlyDones ▸ hy), { h with
      phase := rfl, curOp := fun _ => ho, response := nofun, dlyDones := rfl, trace := ?_ }⟩
    rw [ho]
    exact congrArg (List.append [_, _]) htrace
  | readFailed hi hp ha =>
    have ho := sameToHost_curOp h hi
    exact ⟨_, .readFailed (sameToHost_microOp h hi) (hphase ▸ hp) (h.rdAnswers ▸ ha), { h with
      st := congrArg failedSt ho, phase := rfl, curOp := fun _ => ho, response := fun _ => rfl, rdAnswers := rfl,
      trace := congrArg (List.cons _) htrace }⟩
  | readShort hi hp ha hn =>
    have ho := sameToHost_curOp h hi
    exact ⟨_, .readShort (sameToHost_microOp h hi) (hphase ▸ hp) (h.rdAnswers ▸ ha) (ho ▸ hn), { h with
      st := congrArg failedSt ho, phase := rfl, curOp := fun _ => ho, response := fun _ => rfl, rdAnswers := rfl,
      trace := congrArg (List.cons _) htrace }⟩
  | statusRead hp hr ha hl =>
    have ho := h.curOp (.inr (.inr (.inr hp)))
    exact ⟨_, .statusRead (hphase ▸ hp) (ho ▸ hr) (h.rdAnswers ▸ ha) hl, { h with
      st := rfl, phase := rfl, curOp := fun _ => ho, response := fun _ => rfl, rdAnswers := rfl,
      trace := congrArg (List.cons _) htrace }⟩
  | frameBusy hp hr ha hl hb =>
    have ho := h.curOp (.inr (.inr (.inr hp)))
    exact ⟨_, .frameBusy (hphase ▸ hp) (ho ▸ hr) (h.rdAnswers ▸ ha) hl hb, { h with
      st := rfl, phase := rfl, curOp := fun _ => ho, response := fun _ => rfl, rdAnswers := rfl,
      trace := congrArg (List.cons _) htrace }⟩
  | frameNotCalibrated hp hr ha hl hb hc =>
    have ho := h.curOp (.inr (.inr (.inr hp)))
    exact ⟨_, .frameNotCalibrated (hphase ▸ hp) (ho ▸ hr) (h.rdAnswers ▸ ha) hl hb hc, { h with
      st := rfl, phase := rfl, curOp := fun _ => ho, response := fun _ => rfl, rdAnswers := rfl,
      trace := congrArg (List.cons _) htrace }⟩
  | frameMeasured hp hr ha hl hb hc =>
    have ho := h.curOp (.inr (.inr (.inr hp)))
    exact ⟨_, .frameMeasured (hphase ▸ hp) (ho ▸ hr) (h.rdAnswers ▸ ha) hl hb hc, { h with
      st := rfl, phase := rfl, curOp := fun _ => ho, response := fun _ => rfl, rdAnswers := rfl,
      trace := congrArg (List.cons _) htrace }⟩
  | statusDecoded b => exact ⟨_, .statusDecoded b, { h with trace := congrArg (List.cons _) htrace }⟩
  | frameDecoded b0 b1 b2 b3 b4 =>
    exact ⟨_, .frameDecoded b0 b1 b2 b3 b4, { h with trace := congrArg (List.cons _) htrace }⟩

theorem acceptCmd_sameToHost (op : HostWord) (rest : List HostWord) (h : SameToHost s t) :
    SameToHost (acceptCmd op rest s) (acceptCmd op rest t) :=
  { h with cmds := rfl, trace := congrArg (List.cons _) h.trace }

/-- The refusal of op code 3 writes the whole response that it offers. -/
theorem raise_illegalOp_sameToHost (h : SameToHost s t) : SameToHost (raise .illegalOp s) (raise .illegalOp t) := by
  rw [raise_of_failSt_eq_st (s := s) rfl, raise_of_failSt_eq_st (s := t) rfl]
  exact { h with phase := rfl, curOp := nofun, response := fun _ => rfl }

/-- The response that is taken is the one that was offered. -/
theorem takeResponse_sameToHost (h : SameToHost s t) (hp : s.phase = .rsp) :
    SameToHost (takeResponse s) (takeResponse t) := by
  rw [takeResponse_eq, takeResponse_eq, h.response hp, h.rspTakes, h.trace]
  exact { h with phase := rfl, curOp := nofun, response := nofun, rspTakes := rfl, trace := rfl }

/-- Settles O39: both states fetch alike, and what they fetch they perform alike. -/
theorem noStaleRegisterIsRead : Obligations.NoStaleRegisterIsRead := by
  intro s s' t h hstep
  have hphase := h.phase
  cases stepTo_of_step hstep with
  | @serves d rest hd hx =>
    have hserve : SameToHost (s.setDecIn rest) (t.setDecIn rest) := { h with decIn := rfl }
    obtain ⟨t', hx', h'⟩ := exec_sameToHost hserve (exec_next_iff.mp hx)
    exact ⟨t', step_of_stepTo (.serves (h.decIn ▸ hd) (exec_of_execTo hx')), h'⟩
  | holds hd hw ht =>
    exact ⟨t, step_of_stepTo (.holds (h.decIn ▸ hd) (hphase ▸ h.cmds ▸ h.rspTakes ▸ hw) rfl), ht ▸ h⟩
  | delivers hd hp hr ht =>
    exact ⟨_, step_of_stepTo (.delivers (h.decIn ▸ hd) (hphase ▸ hp) (h.rspTakes ▸ hr) rfl),
      ht ▸ takeResponse_sameToHost h hp⟩
  | @accepts op rest i hd hp hc hi hx =>
    obtain ⟨t', hx', h'⟩ := exec_sameToHost (acceptCmd_sameToHost op rest h) (exec_next_iff.mp hx)
    exact ⟨t', step_of_stepTo (.accepts (h.decIn ▸ hd) (hphase ▸ hp) (h.cmds ▸ hc) hi (exec_of_execTo hx')), h'⟩
  | @refuses rest hd hp hc ht =>
    exact ⟨_, step_of_stepTo (.refuses (rest := rest) (h.decIn ▸ hd) (hphase ▸ hp) (h.cmds ▸ hc) rfl),
      ht ▸ raise_illegalOp_sameToHost (acceptCmd_sameToHost 3 rest h)⟩
  | performs hd hi hx =>
    obtain ⟨t', hx', h'⟩ := exec_sameToHost h (exec_next_iff.mp hx)
    exact ⟨t', step_of_stepTo (.performs (h.decIn ▸ hd) (sameToHost_microOp h hi) (exec_of_execTo hx')), h'⟩

end Sys2Proof.Machine

/-! ## The step, phase by phase -/

namespace Sys2Proof.Machine

open Safety

variable {s t : State} {i : Instr}

/-- Settles O26: a micro-operation is selected by exactly its `cur_op` and phase; `DLY_SETTLE` tests the phase alone. -/
theorem unselectedMicroOperationsStop : Obligations.UnselectedMicroOperationsStop := by
  intro s
  refine ⟨fun h => if_neg (by simpa using h), fun h => if_neg (by simpa using h), fun h => if_neg (by simpa using h),
    fun h => if_neg (by simpa using h), fun h => if_neg (by simpa using h), fun hp ho => ⟨fun hy => ?_, fun n hy => ?_⟩,
    fun h => if_neg (by simpa using h), fun h => if_neg (by simpa using h)⟩
  · exact (exec_dlySettle_selected hp).trans (awaitDelay_missing hy)
  · rw [exec_dlySettle_done hp hy, ho]
    rfl

/-- Settles O28: op code 3 has no operation, and its rejection raises `IllegalOp`, which keeps `st`. -/
theorem reservedOpCodeIsAnsweredIllegalOp : Obligations.ReservedOpCodeIsAnsweredIllegalOp := by
  intro s rest hd hp hc
  rw [step_refuses hd hp hc, raise_of_failSt_eq_st rfl]
  rfl

/-- Settles O29: the step of `P_RSP` is `takeResponse`. -/
theorem responseIsTaken : Obligations.ResponseIsTaken := by
  intro s n hd hp hr
  rw [step_response hd hp hr, takeResponse_eq, hr]
  rfl

theorem hostInstr_of_decode {op : HostWord} {r : List Byte} (h : decode .hc [op.setWidth 8] = .ok (i, r)) :
    hostInstr op = some i := by
  rw [decode_hc_eq_hostInstr] at h
  cases hi : hostInstr op with rw [hi] at h
  | none => cases h
  | some => cases h; rfl

theorem microOp_of_decode {r : List Byte} (h : decode .sel [s.sel] = .ok (i, r)) :
    microOp s.curOp s.phase = some i := by
  rw [decode_sel_eq_microOp] at h
  cases hi : microOp s.curOp s.phase with rw [hi] at h
  | none => cases h
  | some => cases h; rfl

/-- Settles O30: what a word decodes to is what its channel selects, and the step performs that. -/
theorem stepRunsTheDecodedInstruction : Obligations.StepRunsTheDecodedInstruction := by
  intro s i r
  refine ⟨fun op rest hd hp hc h => ?_, fun hd _ h => ?_, fun b rest hd h => ?_, fun b0 b1 b2 b3 b4 rest hd h => ?_⟩
  · rw [step_accepts hd hp hc (hostInstr_of_decode h)]
    rfl
  · exact step_performs hd (microOp_of_decode h)
  · cases h
    exact step_status hd
  · cases h
    exact step_frame hd

/-- Settles O31: between operations the step holds, and inside one the selected micro-operation waits. -/
theorem blockWaitsForItsEvent : Obligations.BlockWaitsForItsEvent := by
  intro s hs hd
  have hwait (hp : s.phase = .dly0 ∨ s.phase = .wr ∨ s.phase = .dly1 ∨ s.phase = .rd) (hw : AnswerMissing s) :
      step s = .next s := by
    obtain ⟨i, hi⟩ := exists_microOp hs hp
    exact (step_performs hd hi).trans (exec_answer_waits hi hw)
  refine ⟨step_no_command hd, fun hp hy => hwait (.inl hp) ?_, fun hp ha => hwait (.inr (.inl hp)) ?_,
    fun hp hy => hwait (.inr (.inr (.inl hp))) ?_, fun hp ha => hwait (.inr (.inr (.inr hp))) ?_, step_no_take hd⟩
  · simp only [AnswerMissing, hp, hy]
  · simp only [AnswerMissing, hp, ha]
  · simp only [AnswerMissing, hp, hy]
  · simp only [AnswerMissing, hp, ha]

/-- Settles O32: the model's reset state gives the three fields these values. -/
theorem resetLeavesIdle : Obligations.ResetLeavesIdle := ⟨rfl, rfl, rfl⟩

/-- Settles O33: after reset no operation is in progress, no response offered and nothing requested. -/
theorem resetMeetsTheInvariants : Obligations.ResetMeetsTheInvariants :=
  ⟨stateRule_iff.mpr (.inl rfl), responseRule_of_phase_ne nofun, orderRule_of_settled (.inl rfl),
    fun _ h => absurd h List.not_mem_nil⟩

/-! ## What each operation leaves unchanged -/

/-- Settles O49: the transitions that write `cur_op` are those of the host operations in `P_IDLE`. -/
theorem onlyAcceptanceWritesCurOp : Obligations.OnlyAcceptanceWritesCurOp := by
  intro i s t h
  cases exec_next_iff.mp h with
  | resetAccepted hp => exact ⟨fun h => absurd rfl h, fun h => absurd hp h⟩
  | initAccepted hp => exact ⟨fun _ h => absurd rfl h, fun h => absurd hp h⟩
  | measureAccepted hp | measureRefused hp => exact ⟨fun _ _ h => absurd rfl h, fun h => absurd hp h⟩
  | _ => exact ⟨fun _ _ _ => rfl, fun _ => rfl⟩

/-- Settles O51: a transition that writes the response registers enters `P_RSP`. -/
theorem responseRegistersKeptUntilTheEnd : Obligations.ResponseRegistersKeptUntilTheEnd := by
  intro i s t h hrsp
  cases exec_next_iff.mp h with
  | measureRefused | writeFailed | resetWritten | readFailed | readShort | statusRead | frameBusy | frameNotCalibrated
  | frameMeasured => exact absurd rfl hrsp
  | _ => exact ⟨rfl, rfl, rfl⟩

/-- Settles O48: of all transitions only the end of a measured frame writes these registers. -/
theorem onlySuccessWritesMeasurement : Obligations.OnlySuccessWritesMeasurement := by
  intro i s t h
  cases exec_next_iff.mp h with
  | frameMeasured => exact .inr ⟨rfl, rfl, rfl, rfl⟩
  | _ => exact .inl ⟨rfl, rfl, rfl, rfl⟩

/-- Settles O47: of all transitions only those of a complete read write these registers, and a status read fills `rx[0]`
alone. -/
theorem onlyCompleteReadsWriteStatus : Obligations.OnlyCompleteReadsWriteStatus := by
  intro i s t h
  cases exec_next_iff.mp h with
  | statusRead hp ho ha hl =>
    refine ⟨fun h => absurd rfl h, fun _ hshort => ?_, fun _ => ⟨rfl, rfl, rfl, rfl, rfl⟩, nofun⟩
    exact absurd (hshort _ _ ha) (by simp [hl])
  | frameBusy hp ho ha hl | frameNotCalibrated hp ho ha hl | frameMeasured hp ho ha hl =>
    exact ⟨fun _ h => absurd rfl h, nofun, nofun, fun _ hshort => absurd (hshort _ _ ha) (by simp [hl])⟩
  | _ =>
    exact ⟨fun _ _ => ⟨rfl, rfl, rfl, rfl, rfl⟩, fun _ _ => ⟨rfl, rfl, rfl, rfl, rfl⟩,
      fun _ => ⟨rfl, rfl, rfl, rfl, rfl⟩, fun _ _ => ⟨rfl, rfl, rfl, rfl, rfl⟩⟩

/-- Settles O50: a transition that writes `st` accepts `INITIALIZE` or `MEASURE`, ends a write or is a read's. -/
theorem stKeptInsideAnOperation : Obligations.StKeptInsideAnOperation := by
  intro i s t h
  cases exec_next_iff.mp h with
  | initAccepted | measureAccepted | statusRead | frameBusy | frameNotCalibrated | frameMeasured =>
    exact ⟨by simp, by simp, nofun, nofun⟩
  | writeFailed hi hp =>
    rw [hp] at hi
    obtain ⟨-, rfl⟩ | ⟨-, rfl⟩ | ⟨-, rfl⟩ := microOp_wr hi
    all_goals exact ⟨fun _ h => absurd rfl h, by simp, nofun, nofun⟩
  | resetWritten => exact ⟨fun _ h => absurd rfl h, by simp, nofun, nofun⟩
  | readFailed hi hp | readShort hi hp =>
    rw [hp] at hi
    obtain ⟨-, rfl⟩ | ⟨-, rfl⟩ := microOp_rd hi
    all_goals exact ⟨by simp, by simp, nofun, nofun⟩
  | _ => exact ⟨fun _ _ => rfl, fun _ => rfl, fun _ _ => rfl, fun _ _ _ _ _ _ => rfl⟩

/-- No operation takes a command, a response or a decoder's input. -/
theorem exec_keeps_inputs (h : ExecTo s i t) : t.cmds = s.cmds ∧ t.rspTakes = s.rspTakes ∧ t.decIn = s.decIn := by
  cases h with
  | _ => exact ⟨rfl, rfl, rfl⟩

/-- A write answer is taken in `P_WR` alone, from the front of those to come. -/
theorem exec_wrAnswers (h : ExecTo s i t) :
    t.wrAnswers = s.wrAnswers ∨ (s.phase = .wr ∧ ∃ a, s.wrAnswers = a :: t.wrAnswers) := by
  cases h with
  | writeFailed _ hp ha | resetWritten _ hp ha | frameWritten _ _ hp ha => exact .inr ⟨hp, _, ha⟩
  | _ => exact .inl rfl

/-- A read answer is taken in `P_RD` alone, from the front of those to come. -/
theorem exec_rdAnswers (h : ExecTo s i t) :
    t.rdAnswers = s.rdAnswers ∨ (s.phase = .rd ∧ ∃ a, s.rdAnswers = a :: t.rdAnswers) := by
  cases h with
  | readFailed _ hp ha | readShort _ hp ha | statusRead hp _ ha | frameBusy hp _ ha | frameNotCalibrated hp _ ha
  | frameMeasured hp _ ha => exact .inr ⟨hp, _, ha⟩
  | _ => exact .inl rfl

/-- A delay answer is taken in the two delay phases alone. -/
theorem exec_dlyDones (h : ExecTo s i t) :
    t.dlyDones = s.dlyDones ∨ ((s.phase = .dly0 ∨ s.phase = .dly1) ∧ s.dlyDones = t.dlyDones + 1) := by
  cases h with
  | poweredOn _ hp hy => exact .inr ⟨.inl hp, hy⟩
  | settled hp hy => exact .inr ⟨.inr hp, hy⟩
  | _ => exact .inl rfl

/-- Settles O52: each transition takes an answer in its own phase alone, and adds at most that answer and a request to
the trace. -/
theorem oneTransactionAtATime : Obligations.OneTransactionAtATime := by
  intro i s t h
  have hx := exec_next_iff.mp h
  obtain ⟨hcmds, htakes, hdec⟩ := exec_keeps_inputs hx
  refine ⟨hcmds, htakes, hdec, exec_wrAnswers hx, exec_rdAnswers hx, exec_dlyDones hx, ?_⟩
  cases hx with
  | commandWaits | answerWaits | measureRefused => exact ⟨[], rfl, Nat.zero_le _⟩
  | resetAccepted | initAccepted | measureAccepted => exact ⟨[_], rfl, Nat.le_refl _⟩
  | frameWritten | poweredOn | settled => exact ⟨[_, _], rfl, Nat.le_refl _⟩
  | _ => exact ⟨[_], rfl, Nat.zero_le _⟩

/-- Settles O17: outside `P_IDLE` a host operation waits, and no course of a step takes a command. -/
theorem commandsWaitOutsideIdle : Obligations.CommandsWaitOutsideIdle := by
  intro s hp
  refine ⟨exec_host_waits (.inl rfl) hp, exec_host_waits (.inr (.inl rfl)) hp, exec_host_waits (.inr (.inr rfl)) hp,
    fun t h => ?_⟩
  cases stepTo_of_step h with
  | @serves d rest hd hx => exact (exec_keeps_inputs (s := s.setDecIn rest) (exec_next_iff.mp hx)).1
  | holds hd hw ht | delivers hd hp hr ht => exact ht ▸ rfl
  | accepts hd hidle | refuses hd hidle => exact absurd hidle hp
  | performs hd hi hx => exact (exec_keeps_inputs (exec_next_iff.mp hx)).1

/-! ## The ways into `Ready` and into `Measuring` (R161) -/

theorem failedSt_eq_ready {op : HostOp} (h : failedSt op = .ready) : op = .measure := by
  cases op with
  | measure => rfl
  | _ => cases h

/-- Inside `MEASURE` `st` is `Measuring`. -/
theorem st_of_measure (hs : StateRule s) (ho : s.curOp = .measure) (hp : s.phase = .wr ∨ s.phase = .rd) :
    s.st = .measuring :=
  hs.measuring.mpr ⟨ho, hp.imp id .inr⟩

theorem exec_enters_ready (hs : StateRule s) (h : ExecTo s i t) (hst : s.st ≠ .ready) (ht : t.st = .ready) :
    (s.curOp = .init ∧ s.phase = .rd ∧ t.phase = .rsp ∧ t.resultReg = .ok) ∨
      (s.curOp = .measure ∧ s.st = .measuring ∧ t.phase = .rsp) := by
  cases h with
  | initAccepted | measureAccepted | resetWritten => cases ht
  | writeFailed _ hp =>
    have ho := failedSt_eq_ready ht
    exact .inr ⟨ho, st_of_measure hs ho (.inl hp), rfl⟩
  | readFailed _ hp | readShort _ hp =>
    have ho := failedSt_eq_ready ht
    exact .inr ⟨ho, st_of_measure hs ho (.inr hp), rfl⟩
  | statusRead hp ho => exact .inl ⟨ho, hp, rfl, rfl⟩
  | frameBusy hp ho | frameNotCalibrated hp ho | frameMeasured hp ho =>
    exact .inr ⟨ho, st_of_measure hs ho (.inr hp), rfl⟩
  | _ => exact absurd ht hst

theorem failedSt_ne_measuring (op : HostOp) : failedSt op ≠ .measuring := by
  cases op <;> nofun

theorem exec_enters_measuring (h : ExecTo s i t) (hst : s.st ≠ .measuring) (ht : t.st = .measuring) :
    i = .hostMeasure ∧ s.st = .ready ∧ s.phase = .idle ∧ t.curOp = .measure ∧ t.phase = .wr := by
  cases h with
  | measureAccepted hp hs => exact ⟨rfl, hs, hp, rfl, rfl⟩
  | initAccepted | resetWritten | statusRead | frameBusy | frameNotCalibrated | frameMeasured => cases ht
  | writeFailed | readFailed | readShort => exact absurd ht (failedSt_ne_measuring _)
  | _ => exact absurd ht hst

/-- Where `st` is kept it enters neither state. -/
theorem enters_nothing_of_st_eq {P Q : Prop} (h : t.st = s.st) :
    (s.st ≠ .ready → t.st = .ready → P) ∧ (s.st ≠ .measuring → t.st = .measuring → Q) :=
  ⟨fun hst ht => absurd (h.symm.trans ht) hst, fun hst ht => absurd (h.symm.trans ht) hst⟩

/-- Settles O40: the operations that enter `Ready` or `Measuring` are these, and the step's own parts keep `st`. -/
theorem readyOnlyByInitialize : Obligations.ReadyOnlyByInitialize := by
  intro s t hs h
  cases stepTo_of_step h with
  | @serves d rest hd hx =>
    have hx := exec_next_iff.mp hx
    refine ⟨exec_enters_ready (s := s.setDecIn rest) (stateRule_setDecIn rest hs) hx, fun hst ht => ?_⟩
    obtain ⟨hi, -⟩ := exec_enters_measuring hx hst ht
    cases d <;> cases hi
  | holds hd hw ht | delivers hd hp hr ht | refuses hd hp hc ht => exact enters_nothing_of_st_eq (ht ▸ rfl)
  | @accepts op rest i hd hp hc hi hx =>
    have hx := exec_next_iff.mp hx
    refine ⟨exec_enters_ready (s := acceptCmd op rest s) (stateRule_acceptCmd op rest hs) hx, fun hst ht => ?_⟩
    obtain ⟨rfl, hready, -, hop, hphase⟩ := exec_enters_measuring hx hst ht
    obtain ⟨-, -, hmeasure⟩ := eq_of_hostInstr op
    exact ⟨hready, hp, ⟨rest, hmeasure hi ▸ hc⟩, hop, hphase⟩
  | performs hd hi hx =>
    have hx := exec_next_iff.mp hx
    refine ⟨exec_enters_ready hs hx, fun hst ht => ?_⟩
    obtain ⟨-, -, hp, -⟩ := exec_enters_measuring hx hst ht
    exact absurd hp (phase_ne_idle_of_microOp hi)

end Sys2Proof.Machine

/-! ## `RESET` from its acceptance to its end (R152, R165) -/

namespace Sys2Proof.Machine

open Safety

variable {s t : State} {i : Instr}

theorem step_reset {cs : List HostWord} (hd : s.decIn = []) (hp : s.phase = .idle) (hc : s.cmds = 0 :: cs) :
    step s = .next { s with
      cmds := cs, curOp := .reset, phase := .wr, trace := .memWrite 0x38 [0xBA] :: .cmd 0 :: s.trace } :=
  (step_accepts hd hp hc rfl).trans (exec_hostReset_idle (s := acceptCmd 0 cs s) hp)

/-- The step of `P_WR` in `RESET`: either answer ends it (R156). -/
theorem step_wr_reset (hd : s.decIn = []) (hp : s.phase = .wr) (ho : s.curOp = .reset) :
    step s = awaitWrite s fun s => respond .ok false false (s.setSt .idle) :=
  (step_performs hd (by rw [hp, ho]; rfl)).trans (exec_wrReset_selected hp ho)

theorem run_reset_written {n : Nat} {as : List WrAnswer} (hd : s.decIn = []) (hp : s.phase = .wr)
    (ho : s.curOp = .reset) (ha : s.wrAnswers = .ok :: as) (hr : s.rspTakes = n + 1) :
    Host.Core.run core 2 s = .next (takeResponse
      (respond .ok false false (((s.setWrAnswers as).record (.wrAnswer .ok)).setSt .idle))) :=
  run_response ((step_wr_reset hd hp ho).trans (awaitWrite_ok ha)) rfl hd hr

theorem run_reset_fails {n : Nat} {as : List WrAnswer} (hd : s.decIn = []) (hp : s.phase = .wr)
    (ho : s.curOp = .reset) (ha : s.wrAnswers = .err :: as) (hr : s.rspTakes = n + 1) :
    Host.Core.run core 2 s =
      .next (takeResponse (raise .transportError ((s.setWrAnswers as).record (.wrAnswer .err)))) :=
  run_response ((step_wr_reset hd hp ho).trans (awaitWrite_err ha)) rfl hd hr

/-- Settles O41: the acceptance, the answer to the write, which ends the operation either way, and the response. -/
theorem resetRunsItsCourse : Obligations.ResetRunsItsCourse := by
  intro s cs a as n hd hp hc ha hr
  have haccept := run_succ 2 (step_reset hd hp hc)
  cases a with
  | ok =>
    exact ⟨_, haccept.trans (run_reset_written hd rfl rfl ha hr), ⟨rfl, rfl, rfl⟩, rfl, rfl, rfl, rfl,
      ⟨rfl, rfl, rfl, rfl, rfl⟩, ⟨rfl, rfl, rfl, rfl⟩⟩
  | err =>
    exact ⟨_, haccept.trans (run_reset_fails hd rfl rfl ha hr), ⟨rfl, rfl, rfl⟩, rfl, rfl, rfl, rfl,
      ⟨rfl, rfl, rfl, rfl, rfl⟩, ⟨rfl, rfl, rfl, rfl⟩⟩

/-! ## Every operation ends (R165): each step with its answer there lowers a rank of the phases -/

/-- How many steps at most a phase is away from `P_IDLE`. -/
def stepsToIdle : Phase → Nat
  | .idle => 0
  | .rsp => 1
  | .rd => 2
  | .dly1 => 3
  | .wr => 4
  | .dly0 => 5

/-- The answers that an operation can still need in its phase and after it are there. -/
def AnswersThere (s : State) : Prop :=
  match s.phase with
  | .idle => True
  | .rsp => True
  | .rd => s.rdAnswers ≠ []
  | .dly1 => 1 ≤ s.dlyDones ∧ s.rdAnswers ≠ []
  | .wr => 1 ≤ s.dlyDones ∧ s.wrAnswers ≠ [] ∧ s.rdAnswers ≠ []
  | .dly0 => 2 ≤ s.dlyDones ∧ s.wrAnswers ≠ [] ∧ s.rdAnswers ≠ []

/-- An operation has all that it can still need, and no decoder is served before it. -/
structure Supplied (s : State) : Prop where
  rule : StateRule s
  decIn : s.decIn = []
  taker : 1 ≤ s.rspTakes
  answers : AnswersThere s

theorem not_answerMissing (h : AnswersThere s) : ¬AnswerMissing s := by
  unfold AnswersThere at h
  unfold AnswerMissing
  cases hp : s.phase with rw [hp] at h
  | idle => exact id
  | rsp => exact id
  | rd => exact h
  | dly1 => exact Nat.ne_of_gt h.1
  | wr => exact h.2.1
  | dly0 => exact Nat.ne_of_gt (Nat.lt_of_succ_lt h.1)

/-- What a phase selects is neither a host operation nor a decoder used alone (R91). -/
theorem microOp_is_micro {op : HostOp} {p : Phase} (hi : microOp op p = some i) :
    ¬IsHostOp i ∧ ∀ d : DecInput, i ≠ d.instr := by
  refine ⟨?_, fun d => ?_⟩
  · rintro (rfl | rfl | rfl) <;> cases op <;> cases p <;> cases hi
  · rintro rfl
    cases d <;> cases op <;> cases p <;> cases hi

/-- With its answer there a micro-operation goes on to a phase nearer to `P_IDLE`, and leaves the answers that are
needed from there on. -/
theorem exec_approaches_idle (ha : AnswersThere s) (hi : microOp s.curOp s.phase = some i) (h : ExecTo s i t) :
    AnswersThere t ∧ stepsToIdle t.phase < stepsToIdle s.phase := by
  have hidle := phase_ne_idle_of_microOp hi
  obtain ⟨hhost, hdec⟩ := microOp_is_micro hi
  have hneeds := ha
  unfold AnswersThere at hneeds
  cases h with
  | commandWaits hi => exact absurd hi hhost
  | answerWaits _ hw => exact absurd hw (not_answerMissing ha)
  | resetAccepted hp | initAccepted hp | measureAccepted hp | measureRefused hp => exact absurd hp hidle
  | statusDecoded b => exact absurd rfl (hdec (.status b))
  | frameDecoded b0 b1 b2 b3 b4 => exact absurd rfl (hdec (.frame b0 b1 b2 b3 b4))
  | poweredOn ho hp hy =>
    rw [hp, hy] at hneeds
    exact ⟨⟨Nat.le_of_succ_le_succ hneeds.1, hneeds.2⟩, by simp [stepsToIdle, hp]⟩
  | frameWritten _ _ hp =>
    rw [hp] at hneeds
    obtain ⟨hdelay, -, hread⟩ := hneeds
    exact ⟨⟨hdelay, hread⟩, by simp [stepsToIdle, hp]⟩
  | settled hp =>
    rw [hp] at hneeds
    exact ⟨hneeds.2, by simp [stepsToIdle, hp]⟩
  | writeFailed _ hp | resetWritten _ hp | readFailed _ hp | readShort _ hp | statusRead hp | frameBusy hp
  | frameNotCalibrated hp | frameMeasured hp => exact ⟨trivial, by simp [stepsToIdle, hp]⟩

/-- An operation is over within `k` steps. -/
def EndsWithin (k : Nat) (s : State) : Prop :=
  ∃ j ≤ k, ∃ t : State, Host.Core.run core j s = .next t ∧ t.phase = .idle ∧ (t.st = .idle ∨ t.st = .ready)

theorem endsWithin_of_idle (k : Nat) (hs : StateRule s) (hp : s.phase = .idle) : EndsWithin k s :=
  ⟨0, Nat.zero_le k, s, rfl, hp, hs.settled (.inl hp)⟩

theorem endsWithin_succ {k : Nat} (h : step s = .next t) (ht : EndsWithin k t) : EndsWithin (k + 1) s := by
  obtain ⟨j, hj, u, hrun, hu⟩ := ht
  exact ⟨j + 1, Nat.succ_le_succ hj, u, (run_succ j h).trans hrun, hu⟩

/-- The step of an operation that has all it needs: to `P_IDLE`, or nearer to it with all that is needed there. -/
theorem supplied_step (hs : Supplied s) (hidle : s.phase ≠ .idle) :
    ∃ t, step s = .next t ∧ StateRule t ∧ (t.phase = .idle ∨ Supplied t) ∧
      stepsToIdle t.phase < stepsToIdle s.phase := by
  obtain ⟨hrule, hd, hr, ha⟩ := hs
  by_cases hrsp : s.phase = .rsp
  · obtain ⟨n, hn⟩ := Nat.exists_eq_add_of_le' hr
    have hstep := step_response hd hrsp hn
    exact ⟨_, hstep, stepKeepsTheStateRule s _ hrule hstep, .inl rfl, by simp [takeResponse_eq, stepsToIdle, hrsp]⟩
  · have hinside : s.phase = .dly0 ∨ s.phase = .wr ∨ s.phase = .dly1 ∨ s.phase = .rd := by
      cases hp : s.phase <;> simp_all
    obtain ⟨i, hi⟩ := exists_microOp hrule hinside
    obtain ⟨t, ht⟩ := exists_execTo_of_microOp hi
    obtain ⟨-, htaker, hdec⟩ := exec_keeps_inputs ht
    obtain ⟨hanswers, hrank⟩ := exec_approaches_idle ha hi ht
    have hrule' := exec_keeps_stateRule hrule ht
    exact ⟨t, (step_performs hd hi).trans (exec_of_execTo ht), hrule',
      .inr ⟨hrule', hdec.trans hd, htaker ▸ hr, hanswers⟩, hrank⟩

theorem endsWithin_of_supplied {k : Nat} (hs : Supplied s) (hk : stepsToIdle s.phase ≤ k) : EndsWithin k s := by
  induction k generalizing s with
  | zero =>
    have hp : s.phase = .idle := by cases hp : s.phase <;> simp [hp, stepsToIdle] at hk ⊢
    exact endsWithin_of_idle 0 hs.rule hp
  | succ k ih =>
    by_cases hp : s.phase = .idle
    · exact endsWithin_of_idle (k + 1) hs.rule hp
    · obtain ⟨t, hstep, hrule, ht, hrank⟩ := supplied_step hs hp
      refine endsWithin_succ hstep ?_
      obtain hidle | hsupplied := ht
      · exact endsWithin_of_idle k hrule hidle
      · exact ih hsupplied (Nat.le_of_lt_succ (hrank.trans_le hk))

/-- Settles O46: no phase is further than five steps from `P_IDLE`, and the answers are there for each. -/
theorem operationsEndWithinFiveRequests : Obligations.OperationsEndWithinFiveRequests := by
  intro s hs hd hy hw hr ht
  have hanswers : AnswersThere s := by
    unfold AnswersThere
    cases s.phase with
    | idle => trivial
    | rsp => trivial
    | rd => exact hr
    | dly1 => exact ⟨Nat.le_of_succ_le hy, hr⟩
    | wr => exact ⟨Nat.le_of_succ_le hy, hw, hr⟩
    | dly0 => exact ⟨hy, hw, hr⟩
  have hfive : stepsToIdle s.phase ≤ 5 := by cases s.phase <;> decide
  exact endsWithin_of_supplied ⟨hs, hd, ht, hanswers⟩ hfive

end Sys2Proof.Machine

/-! ## The decoder and the encoder (30_encoding.md) -/

namespace Sys2Proof

variable {i : Instr} {b : Byte} {bytes rest : List Byte}

/-- Settles O1: each operation's word is the one its decoder's rows or frames name, at every operand. -/
theorem decodeEncodeRoundTrip : Obligations.DecodeEncodeRoundTrip := by
  intro i rest
  cases i <;> rfl

/-- Settles O3: the decoder, evaluated on the nine words. -/
theorem wordsOfTheSpecDecode : Obligations.WordsOfTheSpecDecode :=
  ⟨rfl, rfl, rfl, rfl, rfl, rfl, rfl, rfl, rfl⟩

/-- A word of a table is one byte without stray bits that matches a row. -/
theorem decodeRows_eq_ok {f : Format} {rows : List Row} {e : DecodeError}
    (h : decodeRows f rows e bytes = .ok (i, rest)) :
    ∃ b r, bytes = b :: rest ∧ b.toNat < 2 ^ f.firstBits ∧ r ∈ rows ∧ b &&& r.mask = r.pat ∧ r.instr = i := by
  cases bytes with
  | nil => cases h
  | cons b more =>
    simp only [decodeRows] at h
    split_ifs at h with hbits
    split at h <;> cases h
    obtain ⟨r, hr, hi⟩ := Option.map_eq_some_iff.mp ‹matchRow rows b = some i›
    exact ⟨b, r, rfl, of_decide_eq_true hbits, List.mem_of_find?_eq_some hr, eq_of_beq (List.find?_some hr :), hi⟩

/-- A mask of the low `n` bits. -/
theorem toNat_and_lowMask (b : Byte) {n : Nat} (hn : n ≤ 8) :
    (b &&& BitVec.ofNat 8 (2 ^ n - 1)).toNat = b.toNat % 2 ^ n := by
  have hlt : 2 ^ n - 1 < 2 ^ 8 := (Nat.sub_one_lt (by positivity)).trans_le (Nat.pow_le_pow_right (by decide) hn)
  rw [BitVec.toNat_and, BitVec.toNat_ofNat, Nat.mod_eq_of_lt hlt, Nat.and_two_pow_sub_one_eq_mod]

/-- A mask of all the bits that a byte may have leaves it as it is. -/
theorem and_lowMask_of_lt {n : Nat} (hn : n ≤ 8) (hb : b.toNat < 2 ^ n) : b &&& BitVec.ofNat 8 (2 ^ n - 1) = b :=
  BitVec.eq_of_toNat_eq ((toNat_and_lowMask b hn).trans (Nat.mod_eq_of_lt hb))

/-- The words of format `HC` are the operations' own (R81). -/
theorem decode_hc_eq_ok (h : decode .hc bytes = .ok (i, rest)) : i.format = .hc ∧ bytes = encode i ++ rest := by
  obtain ⟨b, r, rfl, hb, hr, hm, rfl⟩ := decodeRows_eq_ok h
  have hmask : b &&& 0x03 = b := and_lowMask_of_lt (n := 2) (by decide) hb
  simp only [hcRows, List.mem_cons, List.not_mem_nil, or_false] at hr
  obtain rfl | rfl | rfl := hr
  all_goals exact ⟨rfl, congrArg (· :: rest) (hmask.symm.trans hm)⟩

/-- The words of format `SEL` are those of the table's matches and masks (R91; log entry 8). -/
theorem decode_sel_eq_ok (h : decode .sel bytes = .ok (i, rest)) :
    ∃ b : Byte, bytes = b :: rest ∧ b.toNat < 32 ∧
      ((b = 0x02 ∧ i = .wrReset) ∨ (b = 0x0A ∧ i = .wrInit) ∨ (b = 0x12 ∧ i = .wrTrigger) ∨
        (b = 0x09 ∧ i = .dlyPoweron) ∨ (b.toNat % 8 = 3 ∧ i = .dlySettle) ∨
        (b = 0x0C ∧ i = .rdStatus) ∨ (b = 0x14 ∧ i = .rdMeasure)) := by
  obtain ⟨b, r, rfl, hb, hr, hm, rfl⟩ := decodeRows_eq_ok h
  refine ⟨b, rfl, hb, ?_⟩
  have hmask : b &&& 0x1F = b := and_lowMask_of_lt (n := 5) (by decide) hb
  have hlow : (b &&& 0x07).toNat = b.toNat % 8 := toNat_and_lowMask b (n := 3) (by decide)
  simp only [selRows, List.mem_cons, List.not_mem_nil, or_false] at hr
  obtain rfl | rfl | rfl | rfl | rfl | rfl | rfl := hr
  case inr.inr.inr.inr.inl =>
    have hthree : b.toNat % 8 = 3 := hlow.symm.trans (congrArg BitVec.toNat hm)
    simp [hthree]
  all_goals simp [hmask.symm.trans hm]

theorem decode_w1_eq_ok (h : decode .w1 bytes = .ok (i, rest)) : i.format = .w1 ∧ bytes = encode i ++ rest := by
  match bytes, h with
  | b0 :: more, h =>
    simp only [decode] at h
    split_ifs at h with hf
    cases h
    exact ⟨rfl, congrArg (· ++ rest) hf⟩

theorem decode_w3_eq_ok (h : decode .w3 bytes = .ok (i, rest)) : i.format = .w3 ∧ bytes = encode i ++ rest := by
  match bytes, h with
  | b0 :: b1 :: b2 :: more, h =>
    simp only [decode] at h
    split_ifs at h with hinit htrigger
    · cases h
      exact ⟨rfl, congrArg (· ++ rest) hinit⟩
    · cases h
      exact ⟨rfl, congrArg (· ++ rest) htrigger⟩

theorem decode_s8_eq_ok (h : decode .s8 bytes = .ok (i, rest)) : i.format = .s8 ∧ bytes = encode i ++ rest := by
  match bytes, h with
  | s :: more, h =>
    cases h
    exact ⟨rfl, rfl⟩

theorem decode_d40_eq_ok (h : decode .d40 bytes = .ok (i, rest)) : i.format = .d40 ∧ bytes = encode i ++ rest := by
  match bytes, h with
  | b0 :: b1 :: b2 :: b3 :: b4 :: more, h =>
    cases h
    exact ⟨rfl, rfl⟩

theorem decode_r1_eq_ok (h : decode .r1 bytes = .ok (i, rest)) :
    i = .rdStatus ∧ bytes.length = 1 + rest.length := by
  match bytes, h with
  | b :: more, h =>
    cases h
    exact ⟨rfl, by simp only [List.length_cons]; omega⟩

theorem decode_r6_eq_ok (h : decode .r6 bytes = .ok (i, rest)) :
    i = .rdMeasure ∧ bytes.length = 6 + rest.length := by
  match bytes, h with
  | b :: d0 :: d1 :: d2 :: d3 :: d4 :: more, h =>
    cases h
    exact ⟨rfl, by simp only [List.length_cons]; omega⟩

/-- Settles O2: what each format accepts, format by format. -/
theorem decodeReadsOnlyTableWords : Obligations.DecodeReadsOnlyTableWords := by
  intro f bytes rest i h
  cases f with
  | hc => exact ⟨fun _ => decode_hc_eq_ok h, nofun, nofun, nofun⟩
  | w1 => exact ⟨fun _ => decode_w1_eq_ok h, nofun, nofun, nofun⟩
  | w3 => exact ⟨fun _ => decode_w3_eq_ok h, nofun, nofun, nofun⟩
  | s8 => exact ⟨fun _ => decode_s8_eq_ok h, nofun, nofun, nofun⟩
  | d40 => exact ⟨fun _ => decode_d40_eq_ok h, nofun, nofun, nofun⟩
  | sel => exact ⟨by simp, fun _ => decode_sel_eq_ok h, nofun, nofun⟩
  | r1 => exact ⟨by simp, nofun, fun _ => decode_r1_eq_ok h, nofun⟩
  | r6 => exact ⟨by simp, nofun, nofun, fun _ => decode_r6_eq_ok h⟩

end Sys2Proof

/-! ## The status decoder and the frame decoder, byte by byte (R125, R143) -/

namespace Sys2Proof.Machine

/-- A bit of the mask is kept. -/
theorem getLsbD_and_of_mask {m : Byte} (s : Byte) {i : Nat} (hm : m.getLsbD i = true) :
    (s &&& m).getLsbD i = s.getLsbD i := by
  rw [BitVec.getLsbD_and, hm, Bool.and_true]

/-- Settles O5: the flags are read from the bits 7, 6, 5 and 3, which the mask keeps. -/
theorem statusIgnoresOtherBits : Obligations.StatusIgnoresOtherBits := by
  intro s
  simp only [parseStatus, statusBusy_eq_getLsbD, statusMode_eq_of_bits, statusCalibrated_eq_getLsbD]
  rw [getLsbD_and_of_mask s (i := 7) rfl, getLsbD_and_of_mask s (i := 6) rfl, getLsbD_and_of_mask s (i := 5) rfl,
    getLsbD_and_of_mask s (i := 3) rfl]

theorem nibbles_eq_append (x y : BitVec 4) : (x.setWidth 8 <<< 4) ||| y.setWidth 8 = x ++ y := by
  rw [← BitVec.setWidth_append_eq_shiftLeft_setWidth_or, BitVec.setWidth_eq]

/-- Two nibbles side by side in a byte. -/
theorem toNat_nibbles (x y : BitVec 4) :
    ((x.setWidth 8 <<< 4) ||| y.setWidth 8).toNat = x.toNat * 2 ^ 4 + y.toNat := by
  rw [nibbles_eq_append, toNat_append_eq_add]

theorem nibbles_of_byte (b : Byte) :
    ((b.extractLsb' 4 4).setWidth 8 <<< 4) ||| (b.extractLsb' 0 4).setWidth 8 = b := by
  apply BitVec.eq_of_toNat_eq
  rw [toNat_nibbles, BitVec.extractLsb'_toNat, BitVec.extractLsb'_toNat, Nat.shiftRight_eq_div_pow, Nat.shiftRight_zero]
  omega

/-- The extraction of a frame's fields undoes the packing. -/
theorem fields_of_frameBytes (h t : Raw) : ∃ b0 b1 b2 b3 b4 : Byte, frameBytes h t = [b0, b1, b2, b3, b4] ∧
    humidityRaw b0 b1 b2 = h ∧ temperatureRaw b2 b3 b4 = t := by
  refine ⟨_, _, _, _, _, rfl, BitVec.eq_of_toNat_eq ?_, BitVec.eq_of_toNat_eq ?_⟩
  · rw [toNat_humidityRaw, toNat_nibbles]
    simp only [BitVec.extractLsb'_toNat, Nat.shiftRight_eq_div_pow]
    omega
  · rw [toNat_temperatureRaw, toNat_nibbles]
    simp only [BitVec.extractLsb'_toNat, Nat.shiftRight_eq_div_pow]
    omega

/-- Settles O7: a field is its pieces side by side, so packing and extraction undo each other. -/
theorem frameFieldsAreABijection : Obligations.FrameFieldsAreABijection := by
  refine ⟨fields_of_frameBytes, fun b0 b1 b2 b3 b4 => ?_⟩
  obtain ⟨-, h0, h1, h2, -, -, t2, t3, t4, -⟩ := rawFieldsOfAFrame b0 b1 b2 b3 b4 _ rfl
  simp only [parseFrame] at h0 h1 h2 t2 t3 t4
  rw [frameBytes, h0, h1, h2, t2, t3, t4, nibbles_of_byte]

/-- Settles O8: the seven patterns, evaluated. -/
theorem floatPatternsAtTheExtremes : Obligations.FloatPatternsAtTheExtremes :=
  ⟨rfl, rfl, rfl, rfl, rfl, rfl, rfl⟩

end Sys2Proof.Machine

/-! ## The floats of the frame decoder (R135 to R140)

Every operation of R137 is one rounding of an exact quotient of magnitudes, and a magnitude is a natural number of units
of `2^-149`. Of the roundings on the way to an output only that of the product can err: its exact value has the up to 25
significant bits of `25 * raw`. -/

namespace Sys2Proof.Machine

open Safety

/-! ### Rounding depends on the quotient alone -/

theorem roundDiv_mul_right (num den : Nat) {c : Nat} (hc : 0 < c) :
    roundDiv (num * c) (den * c) = roundDiv num den := by
  have hdiv : num * c / (den * c) = num / den := Nat.mul_div_mul_right num den hc
  have hmod : num * c % (den * c) = num % den * c := Nat.mul_mod_mul_right c num den
  have hlt : den * c < 2 * (num % den * c) ↔ den < 2 * (num % den) := by
    rw [← Nat.mul_assoc, Nat.mul_lt_mul_right hc]
  have heq : 2 * (num % den * c) = den * c ↔ 2 * (num % den) = den := by
    rw [← Nat.mul_assoc, Nat.mul_left_inj hc.ne']
  simp only [roundDiv, hdiv, hmod, hlt, heq]

theorem roundF32_mul_right (n : Bool) (num den : Nat) {c : Nat} (hc : 0 < c) :
    roundF32 n (num * c) (den * c) = roundF32 n num den := by
  have hexp : ulpExp (num * c) (den * c) = ulpExp num den := by
    rw [ulpExp, Nat.mul_div_mul_right num den hc, ulpExp]
  simp only [roundF32, hexp]
  rw [Nat.mul_right_comm den c, roundDiv_mul_right num _ hc]

/-! ### The operations on magnitudes -/

/-- A product is rounded once, from its exact magnitude (R137 item 4). -/
theorem fmul_eq (a b : F32) : fmul a b = roundF32 (a.neg != b.neg) (a.mag * b.mag) (2 ^ 149) := by
  have hnum : a.ex + b.ex - 149 + min (a.ex + b.ex) 149 = a.ex + b.ex := by omega
  have hden : 149 - (a.ex + b.ex) + min (a.ex + b.ex) 149 = 149 := by omega
  have hmag : a.sig * b.sig * 2 ^ (a.ex + b.ex) = a.mag * b.mag := by
    rw [F32.mag, F32.mag, pow_add]
    ring
  rw [fmul, ← roundF32_mul_right _ _ _ (Nat.two_pow_pos (min (a.ex + b.ex) 149)), Nat.mul_assoc, ← pow_add, ← pow_add,
    hnum, hden, hmag]

/-- A quotient is rounded once, from its exact magnitude (R137 item 3). -/
theorem fdiv_eq (a b : F32) : fdiv a b = roundF32 (a.neg != b.neg) (a.mag * 2 ^ 149) b.mag := by
  have hnum : a.ex + 149 - b.ex + min (a.ex + 149) b.ex = a.ex + 149 := by omega
  have hden : b.ex - (a.ex + 149) + min (a.ex + 149) b.ex = b.ex := by omega
  rw [fdiv, ← roundF32_mul_right _ _ _ (Nat.two_pow_pos (min (a.ex + 149) b.ex)), Nat.mul_assoc, Nat.mul_assoc,
    ← pow_add, ← pow_add, hnum, hden, pow_add, ← Nat.mul_assoc]
  rfl

/-- A natural number of at most 24 bits converts exactly (R137 item 2). -/
theorem u2f_mag {v : Nat} (hv : v < 2 ^ 24) : (u2f v).mag = v * 2 ^ 149 := by
  have h := roundF32_exact false 149 Nat.one_pos hv
  rwa [Nat.mul_one] at h

theorem u2f_neg (v : Nat) : (u2f v).neg = false := roundF32_neg _ _ _

/-! ### Rounding 25 significant bits -/

/-- A number of at most 25 bits, rounded to 24 significant bits. -/
def roundTo24 (m : Nat) : Nat := if m < 2 ^ 24 then m else 2 * roundDiv m 2

theorem roundTo24_of_lt {m : Nat} (h : m < 2 ^ 24) : roundTo24 m = m := if_pos h

theorem roundTo24_of_le {m : Nat} (h : 2 ^ 24 ≤ m) : roundTo24 m = 2 * roundDiv m 2 := if_neg (Nat.not_lt.mpr h)

theorem roundTo24_error (m : Nat) : m ≤ roundTo24 m + 1 ∧ roundTo24 m ≤ m + 1 := by
  obtain h | h := Nat.lt_or_ge m (2 ^ 24)
  · rw [roundTo24_of_lt h]
    omega
  · have herr := roundDiv_error m Nat.two_pos
    rw [roundTo24_of_le h]
    omega

theorem roundTo24_mono {m n : Nat} (hmn : m ≤ n) : roundTo24 m ≤ roundTo24 n := by
  obtain hn | hn := Nat.lt_or_ge n (2 ^ 24)
  · rw [roundTo24_of_lt hn, roundTo24_of_lt (hmn.trans_lt hn)]
    exact hmn
  · obtain hm | hm := Nat.lt_or_ge m (2 ^ 24)
    · have herr := roundTo24_error n
      rw [roundTo24_of_lt hm]
      omega
    · rw [roundTo24_of_le hm, roundTo24_of_le hn]
      exact Nat.mul_le_mul_left 2 (roundDiv_mono 2 hmn)

/-- From the onset of rounding on the results are even. -/
theorem even_roundTo24 {m : Nat} (h : 2 ^ 24 ≤ roundTo24 m) : 2 ∣ roundTo24 m := by
  obtain hm | hm := Nat.lt_or_ge m (2 ^ 24)
  · rw [roundTo24_of_lt hm] at h
    omega
  · rw [roundTo24_of_le hm]
    exact Nat.dvd_mul_right 2 _

theorem roundTo24_of_even {m : Nat} (h : 2 ∣ m) : roundTo24 m = m := by
  obtain ⟨e, rfl⟩ := h
  obtain hlt | hle := Nat.lt_or_ge (2 * e) (2 ^ 24)
  · exact roundTo24_of_lt hlt
  · rw [roundTo24_of_le hle, Nat.mul_comm 2 e, roundDiv_exact e Nat.two_pos, Nat.mul_comm]

/-- A number of at most 25 significant bits is rounded to 24 of them. -/
theorem roundF32_mag_of_lt (n : Bool) {m : Nat} (k : Nat) {den : Nat} (hd : 0 < den) (hm : m < 2 ^ 25) :
    (roundF32 n (m * 2 ^ k * den) den).mag = roundTo24 m * 2 ^ k := by
  obtain hlt | hle := Nat.lt_or_ge m (2 ^ 24)
  · rw [roundTo24_of_lt hlt]
    exact roundF32_exact n k hd hlt
  · have hlog : (m * 2 ^ k).log2 = 24 + k := by
      rw [Nat.log2_eq_iff (by positivity), pow_add, Nat.add_right_comm, pow_add 2 25 k]
      exact ⟨Nat.mul_le_mul_right _ hle, Nat.mul_lt_mul_of_pos_right hm (Nat.two_pow_pos k)⟩
    have hexp : ulpExp (m * 2 ^ k * den) den = k + 1 := by
      rw [ulpExp, Nat.mul_div_cancel _ hd, hlog]
      omega
    have hnum : m * 2 ^ k * den = m * (den * 2 ^ k) := by ring
    have hden : den * 2 ^ (k + 1) = 2 * (den * 2 ^ k) := by ring
    rw [roundF32_mag, hexp, hden, hnum, roundDiv_mul_right m 2 (by positivity), roundTo24_of_le hle]
    ring

/-! ### The product that both outputs begin with -/

/-- `raw / 2^20 * (25 * 2^j)`, of which `100` and `200` are cases. -/
theorem product_mag (raw : Raw) {j : Nat} (hj : 25 * 2 ^ j < 2 ^ 24) :
    (fmul (fdiv (u2f raw.toNat) (u2f Config.scaleDivisor)) (u2f (25 * 2 ^ j))).mag =
      roundTo24 (25 * raw.toNat) * 2 ^ (129 + j) := by
  have hraw : raw.toNat < 2 ^ 20 := raw.isLt
  have hquot : (fdiv (u2f raw.toNat) (u2f Config.scaleDivisor)).mag = raw.toNat * 2 ^ 129 := by
    have hnum : raw.toNat * 2 ^ 149 * 2 ^ 149 = raw.toNat * 2 ^ 129 * (2 ^ 20 * 2 ^ 149) := by ring
    rw [fdiv_eq, u2f_mag (hraw.trans (by decide)), u2f_mag (v := Config.scaleDivisor) (by decide),
      show Config.scaleDivisor = 2 ^ 20 from rfl, hnum]
    exact roundF32_exact _ 129 (by positivity) (hraw.trans (by decide))
  have hnum : raw.toNat * 2 ^ 129 * (25 * 2 ^ j * 2 ^ 149) = 25 * raw.toNat * 2 ^ (129 + j) * 2 ^ 149 := by ring
  rw [fmul_eq, hquot, u2f_mag hj, hnum]
  exact roundF32_mag_of_lt _ _ (by positivity) (by omega)

theorem product_neg (v j : Nat) : (fmul (fdiv (u2f v) (u2f Config.scaleDivisor)) (u2f j)).neg = false := by
  rw [fmul, roundF32_neg, fdiv, roundF32_neg, u2f_neg, u2f_neg, u2f_neg]
  rfl

/-! ### The difference (R136): exact, since the rounded product has no more significant bits than its format -/

theorem F32.toInt_of_pos {a : F32} (h : a.neg = false) : a.toInt = a.mag := by
  rw [F32.toInt, h]
  rfl

/-- A difference of positive values is rounded once, and negative only below zero (R137 item 5, R140). -/
theorem fsub_eq {a b : F32} (ha : a.neg = false) (hb : b.neg = false) :
    fsub a b = roundF32 (decide ((a.mag : Int) - b.mag < 0)) ((a.mag : Int) - b.mag).natAbs 1 := by
  simp only [fsub, F32.toInt_of_pos ha, F32.toInt_of_pos hb, ha, Bool.false_and]
  congr 1
  split_ifs with h
  · simp [h]
  · rfl

theorem fsub_neg {a b : F32} (ha : a.neg = false) (hb : b.neg = false) :
    (fsub a b).neg = decide ((a.mag : Int) - b.mag < 0) := by
  rw [fsub_eq ha hb, roundF32_neg]

/-- A difference `z * 2^k` of positive values whose `z` fits the format is exact. -/
theorem fsub_mag {a b : F32} {z : Int} {k : Nat} (ha : a.neg = false) (hb : b.neg = false)
    (hz : (a.mag : Int) - b.mag = z * 2 ^ k) (hlt : z.natAbs < 2 ^ 25) (hfit : roundTo24 z.natAbs = z.natAbs) :
    (fsub a b).mag = z.natAbs * 2 ^ k := by
  have hmag := roundF32_mag_of_lt (decide ((a.mag : Int) - b.mag < 0)) k Nat.one_pos hlt
  have habs : ((a.mag : Int) - b.mag).natAbs = z.natAbs * 2 ^ k * 1 := by
    rw [hz, Int.natAbs_mul, Int.natAbs_pow, Nat.mul_one]
    rfl
  rw [fsub_eq ha hb, habs, hmag, hfit]

/-! ### The two outputs as values -/

/-- `humidity_pct` before its bits are taken. -/
def humidityF32 (raw : Raw) : F32 :=
  fmul (fdiv (u2f raw.toNat) (u2f Config.scaleDivisor)) (u2f Config.humScale)

/-- `temperature_c` before its bits are taken. -/
def temperatureF32 (raw : Raw) : F32 :=
  fsub (fmul (fdiv (u2f raw.toNat) (u2f Config.scaleDivisor)) (u2f Config.tempScale)) (u2f Config.tempOffset)

theorem humidityPctOf_eq (raw : Raw) : humidityPctOf raw = (humidityF32 raw).bits := rfl

theorem temperatureCOf_eq (raw : Raw) : temperatureCOf raw = (temperatureF32 raw).bits := rfl

/-- The rounded `25 * raw`, of which both outputs are multiples. -/
def rounded (raw : Raw) : Nat := roundTo24 (25 * raw.toNat)

/-- The bounds that the raw field's width and the rounding's error put on it. -/
theorem rounded_bounds (raw : Raw) :
    rounded raw ≤ 25 * raw.toNat + 1 ∧ 25 * raw.toNat ≤ rounded raw + 1 ∧ rounded raw < 25 * 2 ^ 20 := by
  have hraw : raw.toNat < 2 ^ 20 := raw.isLt
  have herr := roundTo24_error (25 * raw.toNat)
  unfold rounded
  omega

/-- Up to the onset of rounding (R139). -/
theorem rounded_eq {raw : Raw} (h : raw.toNat ≤ 0xA3D70) : rounded raw = 25 * raw.toNat :=
  roundTo24_of_lt (by omega)

/-- How far the product is from that of the offset, in its own steps. -/
def aboveOffset (raw : Raw) : Int := (rounded raw : Int) - 25 * 2 ^ 18

theorem aboveOffset_lt (raw : Raw) : (aboveOffset raw).natAbs < 2 ^ 25 := by
  have hbounds := rounded_bounds raw
  unfold aboveOffset
  omega

/-- The difference fits the format: it is below `2^24`, or the rounded product is beyond it and even. -/
theorem roundTo24_aboveOffset (raw : Raw) : roundTo24 (aboveOffset raw).natAbs = (aboveOffset raw).natAbs := by
  obtain hlt | hle := Nat.lt_or_ge (aboveOffset raw).natAbs (2 ^ 24)
  · exact roundTo24_of_lt hlt
  · unfold aboveOffset at *
    have heven : 2 ∣ rounded raw := even_roundTo24 (show 2 ^ 24 ≤ rounded raw by omega)
    exact roundTo24_of_even (by omega)

theorem humidityF32_neg (raw : Raw) : (humidityF32 raw).neg = false := product_neg _ _

theorem humidityF32_mag (raw : Raw) : (humidityF32 raw).mag = rounded raw * 2 ^ 131 :=
  product_mag raw (j := 2) (by decide)

/-- The exact difference of the rounded product and the offset. -/
theorem temperature_difference (raw : Raw) :
    ((fmul (fdiv (u2f raw.toNat) (u2f Config.scaleDivisor)) (u2f Config.tempScale)).mag : Int) -
      (u2f Config.tempOffset).mag = aboveOffset raw * 2 ^ 132 := by
  have hproduct := product_mag raw (j := 3) (by decide)
  rw [u2f_mag (v := Config.tempOffset) (by decide), show Config.tempScale = 25 * 2 ^ 3 from rfl, hproduct,
    show Config.tempOffset = 50 from rfl, aboveOffset, rounded]
  push_cast
  ring

theorem temperatureF32_neg (raw : Raw) : (temperatureF32 raw).neg = decide (aboveOffset raw < 0) := by
  rw [temperatureF32, fsub_neg (product_neg _ _) (u2f_neg _), temperature_difference]
  exact decide_eq_decide.mpr (by omega)

theorem temperatureF32_mag (raw : Raw) : (temperatureF32 raw).mag = (aboveOffset raw).natAbs * 2 ^ 132 :=
  fsub_mag (product_neg _ _) (u2f_neg _) (temperature_difference raw) (aboveOffset_lt raw) (roundTo24_aboveOffset raw)

theorem humidityF32_normal (raw : Raw) : (humidityF32 raw).Normal := by
  rw [humidityF32, fmul]
  exact roundF32_normal _ _ _

theorem temperatureF32_normal (raw : Raw) : (temperatureF32 raw).Normal := by
  rw [temperatureF32, fsub]
  exact roundF32_normal _ _ _

/-! ### Their bit patterns -/

/-- A magnitude far below the largest finite one has a finite exponent. -/
theorem ex_le_of_mag_lt {a : F32} (h : a.Normal) (hlt : a.mag < 2 ^ 277) : a.ex ≤ 253 := by
  obtain h0 | h23 := h.2
  · omega
  · have hpow : 2 ^ (23 + a.ex) < 2 ^ 277 := by
      rw [pow_add]
      exact (Nat.mul_le_mul_right _ h23).trans_lt hlt
    have hex := (Nat.pow_lt_pow_iff_right Nat.one_lt_two).mp hpow
    omega

theorem humidityF32_ex (raw : Raw) : (humidityF32 raw).ex ≤ 253 := by
  refine ex_le_of_mag_lt (humidityF32_normal raw) ?_
  have hbounds := rounded_bounds raw
  rw [humidityF32_mag]
  omega

theorem temperatureF32_ex (raw : Raw) : (temperatureF32 raw).ex ≤ 253 := by
  refine ex_le_of_mag_lt (temperatureF32_normal raw) ?_
  have hbound := aboveOffset_lt raw
  rw [temperatureF32_mag]
  omega

/-- The humidity is the rounded `25 * raw` in units of `2^-18` percent. -/
theorem floatValue_humidity (raw : Raw) : floatValue (humidityPctOf raw) = rounded raw / 2 ^ 18 := by
  rw [humidityPctOf_eq, floatValue_bits (humidityF32_normal raw) (humidityF32_ex raw), humidityF32_neg,
    humidityF32_mag]
  push_cast
  norm_num
  ring

theorem sign_mul_natAbs (z : Int) : (if decide (z < 0) = true then (-1 : ℚ) else 1) * z.natAbs = z := by
  rw [Nat.cast_natAbs]
  obtain hneg | hpos := lt_or_ge z 0
  · simp [hneg, abs_of_neg hneg]
  · simp [not_lt.mpr hpos, abs_of_nonneg hpos]

/-- The temperature is the rounded `25 * raw` in units of `2^-17` degrees, less 50 degrees. -/
theorem floatValue_temperature (raw : Raw) : floatValue (temperatureCOf raw) = rounded raw / 2 ^ 17 - 50 := by
  rw [temperatureCOf_eq, floatValue_bits (temperatureF32_normal raw) (temperatureF32_ex raw), temperatureF32_neg,
    temperatureF32_mag, Nat.cast_mul, ← mul_assoc, sign_mul_natAbs, aboveOffset]
  push_cast
  ring

/-! ### What the spec enumerates -/

/-- Settles O9: the rounded `25 * raw` stays below `25 * 2^20`, and below `25 * 2^18` it is exact. -/
theorem floatsStayInRange : Obligations.FloatsStayInRange := by
  intro raw
  obtain ⟨hle, hge, hlt⟩ := rounded_bounds raw
  have hltq : (rounded raw : ℚ) < 25 * 2 ^ 20 := by exact_mod_cast hlt
  have hnonneg : (0 : ℚ) ≤ rounded raw := Nat.cast_nonneg _
  have hzero : rounded raw < 25 * 2 ^ 18 ↔ raw.toNat < 0x40000 := by
    obtain hrounds | hexact := Nat.lt_or_ge 0xA3D70 raw.toNat
    · omega
    · rw [rounded_eq hexact]
      omega
  rw [floatValue_humidity, floatValue_temperature, ← hzero]
  have hneg : (rounded raw : ℚ) / 2 ^ 17 - 50 < 0 ↔ (rounded raw : ℚ) < 25 * 2 ^ 18 := by
    constructor <;> intro h <;> linarith
  refine ⟨by positivity, by linarith, by linarith, by linarith, hneg.trans (by exact_mod_cast Iff.rfl)⟩

/-- Settles O10: up to the onset of rounding the product is `25 * raw` itself. -/
theorem floatsExactBelowRounding : Obligations.FloatsExactBelowRounding := by
  intro raw hraw
  rw [floatValue_humidity, floatValue_temperature, rounded_eq hraw, exactHumidity, exactTemperature]
  push_cast
  exact ⟨by ring, by ring⟩

/-- Settles O11: the one rounding that can err errs by at most one in `25 * raw`. -/
theorem floatErrorsAreSmall : Obligations.FloatErrorsAreSmall := by
  intro raw
  obtain ⟨hle, hge, -⟩ := rounded_bounds raw
  have hleq : (rounded raw : ℚ) ≤ 25 * raw.toNat + 1 := by exact_mod_cast hle
  have hgeq : (25 * raw.toNat : ℚ) ≤ rounded raw + 1 := by exact_mod_cast hge
  rw [floatValue_humidity, floatValue_temperature, exactHumidity, exactTemperature, abs_le, abs_le]
  exact ⟨⟨by linarith, by linarith⟩, ⟨by linarith, by linarith⟩⟩

/-- Settles O12: both values grow with the rounded `25 * raw`, and rounding is monotone. -/
theorem floatsAreMonotone : Obligations.FloatsAreMonotone := by
  intro a b hab
  have hround : rounded a ≤ rounded b := roundTo24_mono (Nat.mul_le_mul_left 25 hab)
  have hroundq : (rounded a : ℚ) ≤ rounded b := by exact_mod_cast hround
  simp only [floatValue_humidity, floatValue_temperature]
  exact ⟨by linarith, by linarith⟩

theorem bits_of_mag_eq_zero {a : F32} (h : a.Normal) (hneg : a.neg = false) (h0 : a.mag = 0) : a.bits = 0 := by
  have hsig : a.sig = 0 := (Nat.mul_eq_zero.mp h0).resolve_right (Nat.two_pow_pos _).ne'
  have hex : a.ex = 0 := h.2.resolve_right (by omega)
  rw [F32.bits, hneg, hsig, hex]
  rfl

/-- The pattern of a finite result, sign, exponent and significand in one number. -/
theorem toNat_bits {a : F32} (h : a.Normal) (hf : a.ex ≤ 253) :
    a.bits.toNat = (if a.neg then 2 ^ 31 else 0) + (a.ex * 2 ^ 23 + a.sig) := by
  have hsig : a.sig < 2 ^ 24 := h.1
  rw [F32.bits, Nat.min_eq_left (by omega), BitVec.toNat_ofNat]
  exact Nat.mod_eq_of_lt (by split_ifs <;> omega)

/-- A full significand carries its hidden bit into the exponent field. -/
theorem floatExp_bits {a : F32} (h : a.Normal) (hf : a.ex ≤ 253) (hsig : 2 ^ 23 ≤ a.sig) :
    floatExp a.bits = a.ex + 1 := by
  have hlt : a.sig < 2 ^ 24 := h.1
  rw [floatExp, BitVec.extractLsb'_toNat, toNat_bits h hf, Nat.shiftRight_eq_div_pow]
  split_ifs <;> omega

/-- A magnitude of more than 24 bits has a full significand. -/
theorem full_sig_of_le_mag {a : F32} (h : a.Normal) (hm : 2 ^ 24 ≤ a.mag) : 2 ^ 23 ≤ a.sig := by
  refine h.2.resolve_left fun hex => ?_
  have hlt : a.sig < 2 ^ 24 := h.1
  rw [F32.mag, hex] at hm
  omega

/-- A result is positive zero or a normal number, unless it is so small that its significand can be short. -/
theorem bits_ordinary {a : F32} (h : a.Normal) (hf : a.ex ≤ 253) (hm : (a.neg = false ∧ a.mag = 0) ∨ 2 ^ 24 ≤ a.mag) :
    a.bits = 0 ∨ (1 ≤ floatExp a.bits ∧ floatExp a.bits ≤ 254) := by
  obtain ⟨hneg, hzero⟩ | hbig := hm
  · exact .inl (bits_of_mag_eq_zero h hneg hzero)
  · rw [floatExp_bits h hf (full_sig_of_le_mag h hbig)]
    exact .inr (by omega)

/-- Settles O13: the magnitudes are multiples of `2^131` and of `2^132`, and zero is positive. -/
theorem floatsAreOrdinary : Obligations.FloatsAreOrdinary := by
  intro raw
  rw [humidityPctOf_eq, temperatureCOf_eq]
  refine ⟨bits_ordinary (humidityF32_normal raw) (humidityF32_ex raw) ?_,
    bits_ordinary (temperatureF32_normal raw) (temperatureF32_ex raw) ?_⟩
  · rw [humidityF32_mag, humidityF32_neg, eq_self_iff_true, true_and]
    omega
  · rw [temperatureF32_mag, temperatureF32_neg, decide_eq_false_iff_not]
    omega

end Sys2Proof.Machine
